-- ==== Sys2Proof/Word.lean ====
section
/-! DEFINITION. The word types of IRPPE: a byte of the packet buffer, a word of the register port, a
tick count, and the 37-bit host transaction word HT (spec/00_scope.md R6, R7; spec/30_encoding.md R100). -/

namespace Sys2Proof

/-- One byte of the packet (R7: bit 0 is the least significant). -/
abbrev Byte := BitVec 8

/-- The register port's data word: PORT_DW = 32 bits (R6). -/
abbrev Word := BitVec 32

/-- A tick count, 0 to 65535 (R35, R140). -/
abbrev Tick := BitVec 16

/-- A host transaction word: W in bit 36, WIDX in bits 35:32, DATA in bits 31:0 (R100). -/
abbrev HT := BitVec 37

end Sys2Proof
end

