-- ==== Sys2Proof/Config.lean ====
section
/-! DEFINITION. The configuration of IRPPE (spec/00_scope.md R6, spec/10_state.md R32) and its free
values (R9 draw, spec/20_memory.md R72). No transaction changes anything here. -/

namespace Sys2Proof

/-- The two parameters R6 marks *parameter*: the tick ratio, in ticks per microsecond, with the
default of 90_conflicts.md C1 (one tick = 269000/8192 µs). A device with another tick is this machine with another
`Config` in `State.config` (93_implementation_defined.md I1; log 5). -/
structure Config where
  tickNum : Nat := 8192
  tickDen : Nat := 269000
  deriving DecidableEq, Repr

/-- The device this specification fixes: every parameter at its stated default (R6). -/
def Config.device : Config := {}

/-! The constants of R6 that are not parameters. -/

/-- The largest tick count; larger counts clamp to it. -/
abbrev Config.tickMax : Nat := 65535
/-- Tick counts below it use the 1-byte form. -/
abbrev Config.shortLimit : Nat := 256
/-- The first byte of the 3-byte form. -/
abbrev Config.longPrefix : Byte := 0x00
/-- Bytes of packet header. -/
abbrev Config.hdrLen : Nat := 4
/-- The packet length is a multiple of this. -/
abbrev Config.block : Nat := 16
/-- The command-type byte, packet byte 0. -/
abbrev Config.cmdType : Byte := 0x26
/-- The repeat indicator, packet byte 1. -/
abbrev Config.repeatByte : Byte := 0x00
/-- The largest payload length in bytes. -/
abbrev Config.payloadMax : Nat := 65535
/-- The largest packet length. -/
abbrev Config.pktMax : Nat := 65552
/-- The packet buffer's size in bytes. -/
abbrev Config.bufSize : Nat := 65552
/-- The register port's width in bits. -/
abbrev Config.portWidth : Nat := 32
/-- The register port's size in 32-bit words. -/
abbrev Config.portWords : Nat := 16
/-- The constant value of the ID register, ASCII "IRPE" (R38). -/
abbrev Config.idValue : Word := 0x49525045

/-- IRPPE_BASE, the address of the register window in the host's address space. The specification
leaves it OPEN (R80; 93 I14), so it has no value here and no rule rests on one (log 6). -/
opaque Config.irppeBase : Nat

/-- The address at which the platform places register word `widx` (R70, R80). -/
def Config.registerAddress (widx : BitVec 4) : Nat := Config.irppeBase + 4 * widx.toNat

/-- `draw()`: the value of the `n`-th read of an unwritten buffer byte. A free value under no law
(R9, R72): nothing in Lean can evaluate it (log 4). -/
opaque Config.draw (n : Nat) : Byte

end Sys2Proof
end

