-- ==== Sys2Proof/Machine/State.lean ====
section
/-! DEFINITION. The state of IRPPE (spec/10_state.md R33), the port events of the host and the platform
(R5, spec/20_memory.md R73, spec/70_reset_and_hazards.md R290), the ways a step can stop, and the
state after a hard reset (R291). -/

namespace Sys2Proof.Machine

/-- The session mode (R33). -/
inductive Mode where
  | idle
  | encoding
  deriving DecidableEq, Repr

/-- The packet buffer BUF as a list of (address, byte), addresses strictly rising. An address that is
not listed is an *unwritten* byte, which holds no value (R33, R72; log 10). -/
abbrev Memory := List Host.Cell

/-- One access as it arrives at the register port, before the port protocol is checked (R73; log 1). -/
structure Access where
  /-- the direction: true = write -/
  write : Bool
  /-- byte offset from the base of the register window -/
  offset : Nat
  /-- access width in bits -/
  width : Nat
  /-- byte enables, bit i for data bits 8i+7:8i -/
  enables : BitVec 4
  /-- write data; a read's is ignored -/
  data : Word
  deriving DecidableEq, Repr

/-- What can happen to IRPPE from outside: the host's access, or the platform's hard reset, which may
come between any two transactions (R5, R290). -/
inductive PortEvent where
  | access (a : Access)
  | hardReset
  deriving DecidableEq, Repr

/-- The state of IRPPE, and with it the configuration of the machine and the host's side of the port. -/
structure State where
  /-- The model's own: the parameters of R6. It is no state of IRPPE (R32): nothing writes it, so it is an
  argument of the whole run, and every machine with another tick runs under the same step (log 5). -/
  config : Config
  /-- `mode`, STATUS.ENCODING (R33) -/
  mode : Mode
  /-- `paylen`, payload bytes accepted (R34, R42) -/
  paylen : BitVec 16
  /-- `pcount`, durations accepted (R36, R46) -/
  pcount : BitVec 16
  /-- `lasttick`, the tick count of the last PULSE in a session (R35, R47) -/
  lasttick : Tick
  /-- `pktlen`, total length of the last completed packet, or 0 (R37, R43) -/
  pktlen : BitVec 17
  /-- `pkt_ready`, STATUS bit 1 (R40) -/
  pktReady : Bool
  /-- `enc_fail`, STATUS bit 2 (R40) -/
  encFail : Bool
  /-- `ovf`, STATUS bit 3 (R40) -/
  ovf : Bool
  /-- `cmd_err`, STATUS bit 4, sticky (R40, R264) -/
  cmdErr : Bool
  /-- `buf_err`, STATUS bit 5, sticky (R40, R264) -/
  bufErr : Bool
  /-- `v_done`, STATUS bit 6 (R40) -/
  vDone : Bool
  /-- `vlen` (R48) -/
  vlen : Word
  /-- `vres`, VRESULT[4:0] (R49) -/
  vres : BitVec 5
  /-- `buf_ptr` (R44) -/
  bufPtr : Word
  /-- `BUF` (R33, R70, R72) -/
  buf : Memory
  /-- The model's own: how many fresh draws reads of unwritten bytes have consumed (R9, R72; log 4). -/
  draws : Nat
  /-- The model's own: the port events not yet performed, oldest first (R74, R301; log 1). -/
  pending : List PortEvent
  /-- The model's own: the `rdata` of every read performed, newest first (R9, R100; log 3). -/
  readLog : List Word
  deriving DecidableEq, Repr

/-- The machine right after a hard reset: every element of R33 at its value of R291. The parameters have
their stated defaults (R6; log 5). The host has no event pending and has read nothing (logs 1, 3, 4). -/
def State.reset : State where
  config := Config.device
  mode := .idle
  paylen := 0
  pcount := 0
  lasttick := 0
  pktlen := 0
  pktReady := false
  encFail := false
  ovf := false
  cmdErr := false
  bufErr := false
  vDone := false
  vlen := 0
  vres := 0
  bufPtr := 0
  buf := []
  draws := 0
  pending := []
  readLog := []

/-- Failures of the model that stop a run with a reason. No device error is one of them: those are
STATUS flags (R261). -/
inductive Fault where
  /-- Raised by `loadThen` and `storeThen` when an internal access would touch byte `a` or beyond,
  outside BUF. R71 says this never happens, and no transaction raises it in any state. Safe. -/
  | bufRange (a : Nat)
  deriving DecidableEq, Repr

/-- Why there is no step. -/
inductive Refusal where
  /-- Raised only by an arm of `exec` whose transaction has no meaning yet; there is none. Safe. -/
  | notModelled (mnemonic : String)
  /-- Raised by `step` for an access outside the port protocol: `refuse(PortProtocol)` of R73. Safe. -/
  | portProtocol
  /-- Raised by `step` when no port event is pending: the run has ended (R301; log 2). Safe. -/
  | noTransaction
  deriving DecidableEq, Repr

/-- The outcome of one transaction or one step. -/
abbrev Result := Host.Outcome State Fault Refusal

end Sys2Proof.Machine
end

