-- ==== Sys2Proof/Machine/Ops.lean ====
section
/-! DEFINITION. The named operations over the packet buffer and the state: reading and writing BUF, the
draw of an unwritten byte, the two raises, the answer of a read, and the two resets
(spec/00_scope.md R9, spec/20_memory.md R70 to R72, spec/60_exceptions.md R260, spec/70 R290). -/

namespace Sys2Proof.Machine

/-- The value of byte `a`; `none` when it is unwritten (R33, R72). -/
def Memory.read : Memory → Nat → Option Byte
  | [], _ => none
  | (k, v) :: m, a => if a = k then some v else Memory.read m a

/-- `MemWrite(a, 1, v)` (R9): byte `a` becomes written. Keeps the addresses strictly rising. -/
def Memory.write : Memory → Nat → Byte → Memory
  | [], a, v => [(a, v)]
  | (k, w) :: m, a, v =>
    if a < k then (a, v) :: (k, w) :: m
    else if a = k then (a, v) :: m
    else (k, w) :: Memory.write m a v

/-- `MemWrite` of the bytes `bs` to `a`, `a + 1`, ... in this order. -/
def Memory.writeBytes : Memory → Nat → List Byte → Memory
  | m, _, [] => m
  | m, a, b :: bs => Memory.writeBytes (Memory.write m a b) (a + 1) bs

/-- The addresses are strictly rising, all at least `lo`, and all inside BUF. -/
def Memory.wfFrom : Nat → Memory → Bool
  | _, [] => true
  | lo, (k, _) :: m => decide (lo ≤ k) && decide (k < Config.bufSize) && Memory.wfFrom (k + 1) m

/-- The canonical form of BUF: addresses strictly rising and below BUF_SIZE, so that equal buffers are
equal data. An unlisted byte reads as no value, so no listed entry can repeat it. -/
def Memory.wf (m : Memory) : Bool := Memory.wfFrom 0 m

/-- The state with another buffer. -/
def State.setBuf (m : Memory) (s : State) : State := { s with buf := m }

/-- One fresh draw has been consumed (R9). -/
def State.drawn (s : State) : State := { s with draws := s.draws + 1 }

/-- A read transaction returns `v` to the host: `rdata <- v` (R9). -/
def State.answer (v : Word) (s : State) : State := { s with readLog := v :: s.readLog }

/-- `cmd_err <- 1` (R260). -/
def State.setCmdErr (s : State) : State := { s with cmdErr := true }

/-- `buf_err <- 1` (R260). -/
def State.setBufErr (s : State) : State := { s with bufErr := true }

/-- `buf_ptr <- buf_ptr + 1`, performed only below BUF_SIZE, so it never wraps (R44). -/
def State.advancePtr (s : State) : State := { s with bufPtr := s.bufPtr + 1 }

/-- `raise CmdErr()`: the flag is set and the transaction has no other effect (R9, R260, R265). -/
def raiseCmdErr (s : State) : Result := .next s.setCmdErr

/-- `raise BufErr()` in a write: the flag is set and the transaction has no other effect (R260). -/
def raiseBufErr (s : State) : Result := .next s.setBufErr

/-- `raise BufErr()` in a read, which returns 0 (R232, R260). -/
def raiseBufErrRead (s : State) : Result := .next (s.setBufErr.answer 0)

/-- The value `MemRead(a, 1)` gives: the byte, or a draw if it is unwritten (R9, R72). -/
def State.byteAt (a : Nat) (s : State) : Byte := (s.buf.read a).getD (Config.draw s.draws)

/-- The state after `MemRead(a, 1)`: a draw is consumed if the byte is unwritten (R72). -/
def State.afterRead (a : Nat) (s : State) : State := if (s.buf.read a).isNone then s.drawn else s

/-- `MemRead(a, 1)` and then `k`. An address outside BUF is a fault, which R71 rules out. -/
def loadThen (a : Nat) (s : State) (k : Byte → State → Result) : Result :=
  if a < Config.bufSize then k (s.byteAt a) (s.afterRead a) else .fault (.bufRange a)

/-- `MemWrite` of the bytes `bs` from `a` on and then `k`. A byte outside BUF is a fault, which R71
rules out. -/
def storeThen (a : Nat) (bs : List Byte) (s : State) (k : State → Result) : Result :=
  if a + bs.length ≤ Config.bufSize then k (s.setBuf (s.buf.writeBytes a bs)) else .fault (.bufRange a)

/-- The machine with the parameters `c` right after a hard reset (R6, R291; log 5). -/
def State.resetWith (c : Config) : State := { State.reset with config := c }

/-- Every element of R33 except BUF at its reset value (R221, R290(b)). The configuration is no state
(R32), and the host's side of the port is not IRPPE's to reset. -/
def State.softReset (s : State) : State :=
  { State.resetWith s.config with
    buf := s.buf, draws := s.draws, pending := s.pending, readLog := s.readLog }

/-- Hard reset (R290(a), R291): every element of R33 at its reset value and every BUF byte unwritten.
Draws already consumed stay consumed, so that a later draw is fresh (log 4). -/
def State.hardReset (s : State) : State := s.softReset.setBuf []

end Sys2Proof.Machine
end

