-- ==== Sys2Proof/Machine/Commands.lean ====
section
/-! DEFINITION. The commands without encoder or validator effect (spec/42_host_access.md R220 to R222). -/

namespace Sys2Proof.Machine

/-- NOP (R220): skip, in both modes. -/
def execNop (s : State) : Result := .next s

/-- SOFT_RESET (R221): every element except BUF takes its reset value, in both modes. -/
def execSoftReset (s : State) : Result := .next s.softReset

/-- WR_CTRL_ILLEGAL (R222): a reserved code or reserved bits raise CmdErr, in both modes. -/
def execWrCtrlIllegal (_v : Word) (s : State) : Result := raiseCmdErr s

end Sys2Proof.Machine
end

