-- ==== Sys2Proof/Machine/Codec.lean ====
section
/-! DEFINITION. The pure functions of the encoder: Scale, Pack, Frame, Encode
(spec/40_encoder.md R140 to R142, spec/00_scope.md R8). -/

namespace Sys2Proof.Machine

/-- `ceil16(x)`: the least multiple of 16 that is `>= x` (R8). -/
def ceil16 (x : Nat) : Nat := (x + 15) / Config.block * Config.block

/-- The quotient of R140 before the clamp, exact natural-number arithmetic. -/
def scaleQuotient (c : Config) (d : Word) : Nat := d.toNat * c.tickNum / c.tickDen

/-- `Scale(d)`: microseconds to ticks, clamped to TICK_MAX (R140). -/
def scale (c : Config) (d : Word) : Tick := BitVec.ofNat 16 (min (scaleQuotient c d) Config.tickMax)

/-- Bits 7:0 of a 16-bit value. -/
def lowByte (t : BitVec 16) : Byte := t.extractLsb' 0 8

/-- Bits 15:8 of a 16-bit value. -/
def highByte (t : BitVec 16) : Byte := t.extractLsb' 8 8

/-- `Pack(t)`: the 1-byte or the 3-byte form of one tick count, the latter big-endian (R107, R141). -/
def pack (t : Tick) : List Byte :=
  if t.toNat < Config.shortLimit then [lowByte t] else [Config.longPrefix, highByte t, lowByte t]

/-- The packet header for payload length `len`, the length little-endian (R75, R106). -/
def header (len : BitVec 16) : List Byte :=
  [Config.cmdType, Config.repeatByte, lowByte len, highByte len]

/-- The zero padding after `n` bytes, up to the next multiple of 16 (R142, R145). -/
def padding (n : Nat) : List Byte := List.replicate (ceil16 n - n) 0

/-- `Frame(p)`, for `len(p) <= PAYLOAD_MAX` (R142). -/
def frame (p : List Byte) : List Byte :=
  header (BitVec.ofNat 16 p.length) ++ p ++ padding (Config.hdrLen + p.length)

/-- The payload of a pulse train: `Pack(Scale(d_0)) ++ ...` (R142). -/
def payload (c : Config) (ds : List Word) : List Byte := ds.flatMap fun d => pack (scale c d)

/-- `Encode(d_0, ..., d_{n-1})`; `none` is `Overflow` (R142). -/
def encodeTrain (c : Config) (ds : List Word) : Option (List Byte) :=
  if (payload c ds).length ≤ Config.payloadMax then some (frame (payload c ds)) else none

end Sys2Proof.Machine
end

