-- ==== Sys2Proof/Machine/Operands.lean ====
section
/-! DEFINITION. Operand assembly: what each register write takes from DATA, with no sign extension and
no scaling (spec/30_encoding.md R103), and how a value is widened to `rdata` (spec/00_scope.md R7).
The CTRL fields are in WellFormed.lean, since decoding needs them (R102, R104). -/

namespace Sys2Proof.Machine

/-- PULSE: the duration is DATA[31:0], in microseconds (R103). -/
def pulseOperand (v : Word) : Word := v

/-- VLEN: the new value is DATA[31:0] (R103). -/
def vlenOperand (v : Word) : Word := v

/-- BUF_PTR: the new value is DATA[31:0] (R103). -/
def bufPtrOperand (v : Word) : Word := v

/-- BUF_DATA: the byte is DATA[7:0]; DATA[31:8] is ignored (R103). -/
def bufDataOperand (v : Word) : Byte := v.extractLsb' 0 8

/-- STATUS: DATA[4] clears CMD_ERR (R103, R228). -/
def clearsCmdErr (v : Word) : Bool := v.getLsbD 4

/-- STATUS: DATA[5] clears BUF_ERR (R103, R228). -/
def clearsBufErr (v : Word) : Bool := v.getLsbD 5

/-- `zext_32(x)` (R7). -/
def zext32 (x : BitVec n) : Word := x.setWidth 32

end Sys2Proof.Machine
end

