-- ==== Sys2Proof/Machine/Encoder.lean ====
section
/-! DEFINITION. The encoding session: ENC_BEGIN, PULSE, ENC_END, ENC_ABORT (spec/40_encoder.md R143 to
R146). -/

namespace Sys2Proof.Machine

/-- The state of a session just begun, before its header bytes are zeroed (R143). -/
def State.beginSession (s : State) : State :=
  { s with mode := .encoding, paylen := 0, pcount := 0, lasttick := 0, pktlen := 0,
           pktReady := false, encFail := false, ovf := false }

/-- ENC_BEGIN (R143). -/
def execEncBegin (s : State) : Result :=
  match s.mode with
  | .encoding => raiseCmdErr s
  | .idle => storeThen 0 [0x00#8, 0x00#8, 0x00#8, 0x00#8] s.beginSession .next

/-- The element `e` is counted as accepted: its bytes and one duration (R144). -/
def State.accept (e : List Byte) (s : State) : State :=
  { s with paylen := s.paylen + BitVec.ofNat 16 e.length, pcount := s.pcount + 1 }

/-- `lasttick <- t` (R144). -/
def State.setLasttick (t : Tick) (s : State) : State := { s with lasttick := t }

/-- `ovf <- 1`: the session has overflowed (R144). -/
def State.setOvf (s : State) : State := { s with ovf := true }

/-- An abandoned session closes with no packet (R146). -/
def State.abortSession (s : State) : State :=
  { s with mode := .idle, pktlen := 0, pktReady := false }

/-- Append the element `e` to the payload, or record the overflow and write nothing (R144). -/
def appendElement (e : List Byte) (s : State) : Result :=
  if s.paylen.toNat + e.length > Config.payloadMax then .next s.setOvf
  else storeThen (Config.hdrLen + s.paylen.toNat) e s fun s => .next (s.accept e)

/-- A duration presented in a session, scaled by the machine's tick ratio (R6, R144): LASTTICK follows
every pulse, and a session that has overflowed drops it. -/
def pushPulse (d : Word) (s : State) : Result :=
  let t := scale s.config d
  if s.ovf then .next (s.setLasttick t) else appendElement (pack t) (s.setLasttick t)

/-- WR_PULSE (R144). -/
def execWrPulse (v : Word) (s : State) : Result :=
  match s.mode with
  | .idle => raiseCmdErr s
  | .encoding => pushPulse (pulseOperand v) s

/-- A failed session closes with no packet (R145, R262). -/
def State.failSession (s : State) : State :=
  { s with mode := .idle, encFail := true, pktlen := 0, pktReady := false }

/-- A completed session closes with a packet of `len` bytes (R145). -/
def State.finishSession (len : Nat) (s : State) : State :=
  { s with mode := .idle, pktlen := BitVec.ofNat 17 len, pktReady := true }

/-- The header and the padding around the payload in BUF, and the session closes (R145). -/
def writePacket (s : State) : Result :=
  let n := Config.hdrLen + s.paylen.toNat
  storeThen 0 (header s.paylen) s fun s =>
    storeThen n (padding n) s fun s => .next (s.finishSession (ceil16 n))

/-- ENC_END (R145). -/
def execEncEnd (s : State) : Result :=
  match s.mode with
  | .idle => raiseCmdErr s
  | .encoding => if s.ovf then .next s.failSession else writePacket s

/-- ENC_ABORT (R146). -/
def execEncAbort (s : State) : Result :=
  match s.mode with
  | .idle => raiseCmdErr s
  | .encoding => .next s.abortSession

end Sys2Proof.Machine
end

