-- ==== Sys2Proof/Machine/Flags.lean ====
section
/-! DEFINITION. The flags: the STATUS word (spec/10_state.md R40, spec/42_host_access.md R224) and the
VRESULT bits with the check that computes them (R49, spec/41_validator.md R190). -/

namespace Sys2Proof.Machine

/-- STATUS as read: bit 6 V_DONE down to bit 0 ENCODING, the rest 0 (R40, R224). -/
def statusWord (s : State) : Word :=
  (BitVec.ofBool s.vDone ++ BitVec.ofBool s.bufErr ++ BitVec.ofBool s.cmdErr ++ BitVec.ofBool s.ovf ++
    BitVec.ofBool s.encFail ++ BitVec.ofBool s.pktReady ++
    BitVec.ofBool (decide (s.mode = .encoding))).setWidth 32

/-- The outcome of the packet check: the boolean and the four check bits (R190). -/
structure Verdict where
  lenFail : Bool
  alignFail : Bool
  typeFail : Bool
  shortFail : Bool
  valid : Bool
  deriving DecidableEq, Repr

/-- VRESULT[4:0] = {LEN_FAIL, ALIGN_FAIL, TYPE_FAIL, SHORT_FAIL, VALID} (R49, R191). -/
def verdictBits (r : Verdict) : BitVec 5 :=
  BitVec.ofBool r.lenFail ++ BitVec.ofBool r.alignFail ++ BitVec.ofBool r.typeFail ++
    BitVec.ofBool r.shortFail ++ BitVec.ofBool r.valid

/-- The length a header declares: bytes 2 and 3, little-endian (R75, R190). -/
def declaredLength (b2 b3 : Byte) : Nat := b2.toNat + 256 * b3.toNat

/-- The four checks of R190 on a sequence of length `n` whose bytes 0, 2 and 3 are `b0`, `b2`, `b3`.
When `n < 4` the bytes are not looked at. -/
def checkPacket (n : Nat) (b0 b2 b3 : Byte) : Verdict :=
  let shortFail := decide (n < Config.hdrLen)
  let alignFail := decide (n % Config.block ≠ 0)
  let typeFail := !shortFail && decide (b0 ≠ Config.cmdType)
  let lenFail := !shortFail && decide (ceil16 (Config.hdrLen + declaredLength b2 b3) ≠ n)
  { lenFail, alignFail, typeFail, shortFail, valid := !(shortFail || typeFail || alignFail || lenFail) }

/-- `Validate(s)` on a byte sequence (R190). The default of a missing byte is never looked at. -/
def validatePacket (p : List Byte) : Verdict :=
  checkPacket p.length (p.getD 0 0) (p.getD 2 0) (p.getD 3 0)

end Sys2Proof.Machine
end

