-- ==== Sys2Proof/Machine/RegRead.lean ====
section
/-! DEFINITION. Register reads without side effect (spec/42_host_access.md section 2, R240;
spec/20_memory.md R79). Each answers `rdata` and changes nothing in IRPPE. -/

namespace Sys2Proof.Machine

/-- RD_ID (R223). -/
def execRdId (s : State) : Result := .next (s.answer Config.idValue)

/-- RD_CTRL (R237): a write-only register reads 0. -/
def execRdCtrl (s : State) : Result := .next (s.answer 0)

/-- RD_STATUS (R224). -/
def execRdStatus (s : State) : Result := .next (s.answer (statusWord s))

/-- RD_PULSE (R237): a write-only register reads 0. -/
def execRdPulse (s : State) : Result := .next (s.answer 0)

/-- RD_PAYLEN (R225). -/
def execRdPaylen (s : State) : Result := .next (s.answer (zext32 s.paylen))

/-- RD_PKTLEN (R226). -/
def execRdPktlen (s : State) : Result := .next (s.answer (zext32 s.pktlen))

/-- RD_PCOUNT (R227). -/
def execRdPcount (s : State) : Result := .next (s.answer (zext32 s.pcount))

/-- RD_LASTTICK (R229). -/
def execRdLasttick (s : State) : Result := .next (s.answer (zext32 s.lasttick))

/-- RD_VLEN (R230). -/
def execRdVlen (s : State) : Result := .next (s.answer s.vlen)

/-- RD_VRESULT (R236). -/
def execRdVresult (s : State) : Result := .next (s.answer (zext32 s.vres))

/-- RD_BUF_PTR (R234). -/
def execRdBufPtr (s : State) : Result := .next (s.answer s.bufPtr)

/-- RD_RSVD (R240): a reserved offset reads 0. -/
def execRdRsvd (_k : BitVec 2) (s : State) : Result := .next (s.answer 0)

end Sys2Proof.Machine
end

