-- ==== Sys2Proof/Machine/RegWrite.lean ====
section
/-! DEFINITION. Register writes (spec/42_host_access.md section 3, R240): STATUS, VLEN, BUF_PTR, and the
read-only and reserved registers, which ignore them. All are legal in both modes. -/

namespace Sys2Proof.Machine

/-- The W1C bits of STATUS: a flag written as 1 is cleared (R228). -/
def State.clearErrors (v : Word) (s : State) : State :=
  { s with cmdErr := s.cmdErr && !clearsCmdErr v, bufErr := s.bufErr && !clearsBufErr v }

/-- `vlen <- v` (R231). -/
def State.setVlen (v : Word) (s : State) : State := { s with vlen := v }

/-- `buf_ptr <- v` (R235). -/
def State.setBufPtr (v : Word) (s : State) : State := { s with bufPtr := v }

/-- A write that the register ignores: skip (R238, R240). -/
def ignoreWrite (_v : Word) (s : State) : Result := .next s

/-- WR_STATUS (R228): the W1C bits 5:4; every other bit is ignored. -/
def execWrStatus (v : Word) (s : State) : Result := .next (s.clearErrors v)

/-- WR_VLEN (R231): no range check. -/
def execWrVlen (v : Word) (s : State) : Result := .next (s.setVlen (vlenOperand v))

/-- WR_BUF_PTR (R235): no range check. -/
def execWrBufPtr (v : Word) (s : State) : Result := .next (s.setBufPtr (bufPtrOperand v))

/-- WR_ID (R238): read-only. -/
def execWrId (v : Word) (s : State) : Result := ignoreWrite v s

/-- WR_PAYLEN (R238): read-only. -/
def execWrPaylen (v : Word) (s : State) : Result := ignoreWrite v s

/-- WR_PKTLEN (R238): read-only. -/
def execWrPktlen (v : Word) (s : State) : Result := ignoreWrite v s

/-- WR_PCOUNT (R238): read-only. -/
def execWrPcount (v : Word) (s : State) : Result := ignoreWrite v s

/-- WR_LASTTICK (R238): read-only. -/
def execWrLasttick (v : Word) (s : State) : Result := ignoreWrite v s

/-- WR_VRESULT (R238): read-only. -/
def execWrVresult (v : Word) (s : State) : Result := ignoreWrite v s

/-- WR_RSVD (R240): a reserved offset ignores writes. -/
def execWrRsvd (_k : BitVec 2) (v : Word) (s : State) : Result := ignoreWrite v s

end Sys2Proof.Machine
end

