-- ==== Sys2Proof/Machine/Validator.lean ====
section
/-! DEFINITION. The VALIDATE command (spec/41_validator.md R191). -/

namespace Sys2Proof.Machine

/-- `vres <- {lf, af, tf, sf, valid}; v_done <- 1` (R191). -/
def State.setVerdict (r : Verdict) (s : State) : State :=
  { s with vres := verdictBits r, vDone := true }

/-- VALIDATE (R191): CmdErr in a session. The header bytes 0, 2 and 3 are read, in this order, only
when `vlen >= 4`; each unwritten one is a draw of its own (R72). -/
def execValidate (s : State) : Result :=
  match s.mode with
  | .encoding => raiseCmdErr s
  | .idle =>
    let n := s.vlen.toNat
    if n < Config.hdrLen then .next (s.setVerdict (checkPacket n 0 0 0))
    else
      loadThen 0 s fun b0 s => loadThen 2 s fun b2 s => loadThen 3 s fun b3 s =>
        .next (s.setVerdict (checkPacket n b0 b2 b3))

end Sys2Proof.Machine
end

