-- ==== Sys2Proof/Machine/Window.lean ====
section
/-! DEFINITION. The packet buffer window BUF_DATA (spec/42_host_access.md R232, R233), with the order of
the checks of spec/60_exceptions.md R266: mode, then range. -/

namespace Sys2Proof.Machine

/-- RD_BUF_DATA (R232): the byte at `buf_ptr`, a draw if it is unwritten, and the pointer advances. Out
of range it raises BufErr and returns 0. -/
def execRdBufData (s : State) : Result :=
  if s.bufPtr.toNat < Config.bufSize then
    loadThen s.bufPtr.toNat s fun b s => .next (s.advancePtr.answer (zext32 b))
  else raiseBufErrRead s

/-- WR_BUF_DATA (R233): CmdErr in a session, BufErr out of range, else the byte is written at `buf_ptr`
and the pointer advances. -/
def execWrBufData (v : Word) (s : State) : Result :=
  match s.mode with
  | .encoding => raiseCmdErr s
  | .idle =>
    if s.bufPtr.toNat < Config.bufSize then
      storeThen s.bufPtr.toNat [bufDataOperand v] s fun s => .next s.advancePtr
    else raiseBufErr s

end Sys2Proof.Machine
end

