-- ==== Sys2Proof/Syntax.lean ====
section
/-! DEFINITION. The host transactions: one constructor per row of spec/opcode_table.json (R100, R102). -/

namespace Sys2Proof

/-- A host transaction. `v` is the transaction's DATA, kept whole wherever the transaction is a
register write, whether or not the device looks at it (R103, R238). A read carries no operand: R100
says DATA is ignored when W = 0. `k` is WIDX[1:0] of one of the four reserved offsets (R240). -/
inductive Instr where
  -- register reads (spec/42_host_access.md section 2, R232, R240)
  | rdId
  | rdCtrl
  | rdStatus
  | rdPulse
  | rdPaylen
  | rdPktlen
  | rdPcount
  | rdLasttick
  | rdVlen
  | rdVresult
  | rdBufPtr
  | rdBufData
  | rdRsvd (k : BitVec 2)
  -- commands: writes to CTRL (R102)
  | nop
  | encBegin
  | encEnd
  | encAbort
  | validate
  | softReset
  | wrCtrlIllegal (v : Word)
  -- register writes (spec/42_host_access.md sections 3 to 5, R144)
  | wrId (v : Word)
  | wrStatus (v : Word)
  | wrPulse (v : Word)
  | wrPaylen (v : Word)
  | wrPktlen (v : Word)
  | wrPcount (v : Word)
  | wrLasttick (v : Word)
  | wrVlen (v : Word)
  | wrVresult (v : Word)
  | wrBufPtr (v : Word)
  | wrBufData (v : Word)
  | wrRsvd (k : BitVec 2) (v : Word)
  deriving DecidableEq, Repr

end Sys2Proof
end

