-- ==== Sys2Proof/Machine/Dispatch.lean ====
section
/-! DEFINITION. One arm per host transaction, each a direct call of its meaning. -/

namespace Sys2Proof.Machine

def exec (i : Instr) (s : State) : Host.Outcome State Fault Refusal :=
  match i with
  | .rdId => Sys2Proof.Machine.execRdId s
  | .rdCtrl => Sys2Proof.Machine.execRdCtrl s
  | .rdStatus => Sys2Proof.Machine.execRdStatus s
  | .rdPulse => Sys2Proof.Machine.execRdPulse s
  | .rdPaylen => Sys2Proof.Machine.execRdPaylen s
  | .rdPktlen => Sys2Proof.Machine.execRdPktlen s
  | .rdPcount => Sys2Proof.Machine.execRdPcount s
  | .rdLasttick => Sys2Proof.Machine.execRdLasttick s
  | .rdVlen => Sys2Proof.Machine.execRdVlen s
  | .rdVresult => Sys2Proof.Machine.execRdVresult s
  | .rdBufPtr => Sys2Proof.Machine.execRdBufPtr s
  | .rdBufData => Sys2Proof.Machine.execRdBufData s
  | .rdRsvd k => Sys2Proof.Machine.execRdRsvd k s
  | .nop => Sys2Proof.Machine.execNop s
  | .encBegin => Sys2Proof.Machine.execEncBegin s
  | .encEnd => Sys2Proof.Machine.execEncEnd s
  | .encAbort => Sys2Proof.Machine.execEncAbort s
  | .validate => Sys2Proof.Machine.execValidate s
  | .softReset => Sys2Proof.Machine.execSoftReset s
  | .wrCtrlIllegal v => Sys2Proof.Machine.execWrCtrlIllegal v s
  | .wrId v => Sys2Proof.Machine.execWrId v s
  | .wrStatus v => Sys2Proof.Machine.execWrStatus v s
  | .wrPulse v => Sys2Proof.Machine.execWrPulse v s
  | .wrPaylen v => Sys2Proof.Machine.execWrPaylen v s
  | .wrPktlen v => Sys2Proof.Machine.execWrPktlen v s
  | .wrPcount v => Sys2Proof.Machine.execWrPcount v s
  | .wrLasttick v => Sys2Proof.Machine.execWrLasttick v s
  | .wrVlen v => Sys2Proof.Machine.execWrVlen v s
  | .wrVresult v => Sys2Proof.Machine.execWrVresult v s
  | .wrBufPtr v => Sys2Proof.Machine.execWrBufPtr v s
  | .wrBufData v => Sys2Proof.Machine.execWrBufData v s
  | .wrRsvd k v => Sys2Proof.Machine.execWrRsvd k v s

end Sys2Proof.Machine
end

