-- ==== Sys2Proof/WellFormed.lean ====
section
/-! DEFINITION. Which terms of Instr stand for a transaction. The one check: WR_CTRL_ILLEGAL carries a
value that no command row matches (R104, R222). -/

namespace Sys2Proof

/-- The command code of a CTRL write, DATA[3:0] (R102). -/
def ctrlCmd (v : Word) : BitVec 4 := v.extractLsb' 0 4

/-- The reserved bits of a CTRL write, DATA[31:4], which must be zero (R102). -/
def ctrlReserved (v : Word) : BitVec 28 := v.extractLsb' 4 28

/-- A CTRL value that is illegal: a reserved bit set, or a code in 0x5 to 0xE (R105, R222). -/
def ctrlIllegal (v : Word) : Bool :=
  ctrlReserved v != 0#28 || (5 ≤ (ctrlCmd v).toNat && (ctrlCmd v).toNat ≤ 14)

/-- A transaction term is well formed unless it calls a legal command word illegal. -/
def Instr.wellFormed : Instr → Bool
  | .wrCtrlIllegal v => ctrlIllegal v
  | .rdId | .rdCtrl | .rdStatus | .rdPulse | .rdPaylen | .rdPktlen | .rdPcount | .rdLasttick
  | .rdVlen | .rdVresult | .rdBufPtr | .rdBufData | .rdRsvd _
  | .nop | .encBegin | .encEnd | .encAbort | .validate | .softReset
  | .wrId _ | .wrStatus _ | .wrPulse _ | .wrPaylen _ | .wrPktlen _ | .wrPcount _ | .wrLasttick _
  | .wrVlen _ | .wrVresult _ | .wrBufPtr _ | .wrBufData _ | .wrRsvd _ _ => true

end Sys2Proof
end

