-- ==== Sys2Proof/Decode.lean ====
section
/-! DEFINITION. Decoding a host transaction word by the precedence of R104, total on all 2^37 words,
and the encoder written from the same map (R100 to R104). -/

namespace Sys2Proof

/-- Bit W: 1 = write, 0 = read (R100). -/
def htWrite (w : HT) : Bool := w.getLsbD 36

/-- Field WIDX, the word index into the register space (R100). -/
def htWidx (w : HT) : BitVec 4 := w.extractLsb' 32 4

/-- Field DATA (R100). -/
def htData (w : HT) : Word := w.extractLsb' 0 32

/-- The HT word with the given fields (R100). -/
def htWord (write : Bool) (widx : BitVec 4) (data : Word) : HT := BitVec.ofBool write ++ widx ++ data

/-- The row of a register read (R101, R104): DATA does not matter. -/
def decodeRead (widx : BitVec 4) : Instr :=
  match widx.toNat with
  | 0 => .rdId
  | 1 => .rdCtrl
  | 2 => .rdStatus
  | 3 => .rdPulse
  | 4 => .rdPaylen
  | 5 => .rdPktlen
  | 6 => .rdPcount
  | 7 => .rdLasttick
  | 8 => .rdVlen
  | 9 => .rdVresult
  | 10 => .rdBufPtr
  | 11 => .rdBufData
  | _ => .rdRsvd (widx.extractLsb' 0 2)   -- WIDX 12 to 15

/-- The row of a write to CTRL: a full match of a command row first, then WR_CTRL_ILLEGAL (R104). -/
def decodeCtrl (v : Word) : Instr :=
  if ctrlReserved v = 0#28 then
    match (ctrlCmd v).toNat with
    | 0 => .nop
    | 1 => .encBegin
    | 2 => .encEnd
    | 3 => .encAbort
    | 4 => .validate
    | 15 => .softReset
    | _ => .wrCtrlIllegal v               -- codes 0x5 to 0xE
  else .wrCtrlIllegal v

/-- The row of a register write (R101, R104). -/
def decodeWrite (widx : BitVec 4) (v : Word) : Instr :=
  match widx.toNat with
  | 0 => .wrId v
  | 1 => decodeCtrl v
  | 2 => .wrStatus v
  | 3 => .wrPulse v
  | 4 => .wrPaylen v
  | 5 => .wrPktlen v
  | 6 => .wrPcount v
  | 7 => .wrLasttick v
  | 8 => .wrVlen v
  | 9 => .wrVresult v
  | 10 => .wrBufPtr v
  | 11 => .wrBufData v
  | _ => .wrRsvd (widx.extractLsb' 0 2) v   -- WIDX 12 to 15

/-- R104: a decoder reads W and WIDX and then selects the row. -/
def decode (w : HT) : Instr :=
  if htWrite w then decodeWrite (htWidx w) (htData w) else decodeRead (htWidx w)

/-- Why a number is not decoded: it is not one of the 2^37 HT words (R100). -/
inductive DecodeError where
  | notHostTransaction
  deriving DecidableEq, Repr

/-- Decoding of any number: bits above bit 36 are no part of an HT word (R100; log 7). -/
def decodeNat (w : Nat) : Except DecodeError Instr :=
  if w < 2 ^ 37 then .ok (decode (BitVec.ofNat 37 w)) else .error .notHostTransaction

/-- The transaction read from an opcode-table word. An HT word is one 37-bit word, so the table's
40 bits are the word itself with three zero bits above it, and no operand words follow (log 7). -/
def decodeTableWord (_nbits w : Nat) : Option Instr :=
  match decodeNat w with
  | .ok i => some i
  | .error _ => none

/-- A read transaction: W = 0, DATA written 0 (R100, R109). -/
def encodeRead (widx : BitVec 4) : HT := htWord false widx 0

/-- A write transaction (R100, R109). -/
def encodeWrite (widx : BitVec 4) (v : Word) : HT := htWord true widx v

/-- A command: a write of its code to CTRL (R102). -/
def encodeCommand (code : Word) : HT := encodeWrite 1 code

/-- The HT word of a transaction, from the register map R101 and the command table R102. -/
def encode : Instr → HT
  | .rdId => encodeRead 0
  | .rdCtrl => encodeRead 1
  | .rdStatus => encodeRead 2
  | .rdPulse => encodeRead 3
  | .rdPaylen => encodeRead 4
  | .rdPktlen => encodeRead 5
  | .rdPcount => encodeRead 6
  | .rdLasttick => encodeRead 7
  | .rdVlen => encodeRead 8
  | .rdVresult => encodeRead 9
  | .rdBufPtr => encodeRead 10
  | .rdBufData => encodeRead 11
  | .rdRsvd k => encodeRead (3#2 ++ k)
  | .nop => encodeCommand 0x0
  | .encBegin => encodeCommand 0x1
  | .encEnd => encodeCommand 0x2
  | .encAbort => encodeCommand 0x3
  | .validate => encodeCommand 0x4
  | .softReset => encodeCommand 0xF
  | .wrCtrlIllegal v => encodeWrite 1 v
  | .wrId v => encodeWrite 0 v
  | .wrStatus v => encodeWrite 2 v
  | .wrPulse v => encodeWrite 3 v
  | .wrPaylen v => encodeWrite 4 v
  | .wrPktlen v => encodeWrite 5 v
  | .wrPcount v => encodeWrite 6 v
  | .wrLasttick v => encodeWrite 7 v
  | .wrVlen v => encodeWrite 8 v
  | .wrVresult v => encodeWrite 9 v
  | .wrBufPtr v => encodeWrite 10 v
  | .wrBufData v => encodeWrite 11 v
  | .wrRsvd k v => encodeWrite (3#2 ++ k) v

end Sys2Proof
end

