-- ==== Sys2Proof/Machine/Port.lean ====
section
/-! DEFINITION. The register port: the protocol an access must keep (spec/20_memory.md R73), the host
transaction it becomes (spec/30_encoding.md R100), and the order in which events are taken (R74). -/

namespace Sys2Proof.Machine

/-- The access keeps the port protocol: 32 bits wide, at a multiple of 4 below 0x40, with every byte
enabled (R73, R77). -/
def accessAllowed (a : Access) : Bool :=
  a.width == Config.portWidth && a.offset % 4 == 0 && decide (a.offset < 4 * Config.portWords)
    && a.enables == 0b1111

/-- The HT word of an access that keeps the protocol: byte offset = 4 * WIDX (R100). -/
def accessHt (a : Access) : HT := htWord a.write (BitVec.ofNat 4 (a.offset / 4)) a.data

/-- The access by which a host performs the transaction `w` (R100, R109). -/
def accessOfHt (w : HT) : Access where
  write := htWrite w
  offset := 4 * (htWidx w).toNat
  width := Config.portWidth
  enables := 0b1111
  data := htData w

/-- The access of an opcode-table word. A number above 37 bits is no HT word, and the port has no
access for it: it becomes one of no width, which the protocol refuses (log 7). -/
def accessOfTableWord (w : Nat) : Access :=
  let a := accessOfHt (BitVec.ofNat 37 w)
  if w < 2 ^ 37 then a else { a with width := 0 }

/-- The oldest pending event, and the state in which it is performed (R74: transactions are performed
in the order they are received, each complete before the next). -/
def takeEvent (s : State) : Option (PortEvent × State) :=
  match s.pending with
  | [] => none
  | e :: rest => some (e, { s with pending := rest })

/-- The host issues `a` before everything else it has pending. -/
def pushAccess (a : Access) (s : State) : State := { s with pending := .access a :: s.pending }

end Sys2Proof.Machine
end

