-- ==== Sys2Proof/Machine/Step.lean ====
section
/-! DEFINITION. One step of IRPPE: the host's or the platform's next event is performed whole
(spec/20_memory.md R74, spec/70_reset_and_hazards.md R290, R301). -/

namespace Sys2Proof.Machine

/-- One step. IRPPE has no step of its own (R5): with no event pending the run has ended (R301; log 2).
An access outside the port protocol has no step (R73), before any other check (R266). -/
def step (s : State) : Host.Outcome State Fault Refusal :=
  match takeEvent s with
  | none => .refused .noTransaction
  | some (.hardReset, s) => .next s.hardReset
  | some (.access a, s) => if accessAllowed a then exec (decode (accessHt a)) s else .refused .portProtocol

/-- The state in which the host's next transaction is the opcode-table word `w`. IRPPE fetches nothing
(R31): the host supplies the transaction, before whatever else it has pending (log 1). -/
def State.withFetchWord (s : State) (_nbits w : Nat) : State := pushAccess (accessOfTableWord w) s

end Sys2Proof.Machine
end

