-- ==== Sys2Proof/Machine/Script.lean ====
section
/-! DEFINITION. Host scripts: one transaction a line, and the pseudo-instructions that a host's tools
expand into such lines (spec/30_encoding.md R109, R110). IRPPE never sees a pseudo-instruction. -/

namespace Sys2Proof.Machine

/-- The register names of R101. `rsvd k` is the offset 0x30 + 4k. -/
inductive Reg where
  | id | ctrl | status | pulse | paylen | pktlen | pcount | lasttick | vlen | vresult | bufPtr | bufData
  | rsvd (k : BitVec 2)
  deriving DecidableEq, Repr

/-- The word index of a register (R101). -/
def regWidx : Reg → BitVec 4
  | .id => 0
  | .ctrl => 1
  | .status => 2
  | .pulse => 3
  | .paylen => 4
  | .pktlen => 5
  | .pcount => 6
  | .lasttick => 7
  | .vlen => 8
  | .vresult => 9
  | .bufPtr => 10
  | .bufData => 11
  | .rsvd k => 3#2 ++ k

/-- A line of a host script: `WR reg, value`, or `RD reg` with the value the rules give, if the line
states one (R109). -/
inductive Line where
  | wr (r : Reg) (v : Word)
  | rd (r : Reg) (expected : Option Word)
  deriving DecidableEq, Repr

/-- `WR r, v` is HT {1, WIDX(r), v}; `RD r` is HT {0, WIDX(r), 0} (R109). -/
def lineHt : Line → HT
  | .wr r v => htWord true (regWidx r) v
  | .rd r _ => htWord false (regWidx r) 0

/-- The value of a command mnemonic on a `WR CTRL` line (R102, R109). -/
inductive Command where
  | nop | encBegin | encEnd | encAbort | validate | softReset
  deriving DecidableEq, Repr

/-- The command codes (R102). -/
def commandCode : Command → Word
  | .nop => 0x0
  | .encBegin => 0x1
  | .encEnd => 0x2
  | .encAbort => 0x3
  | .validate => 0x4
  | .softReset => 0xF

/-- A host script with its pseudo-instructions; `rest` is what follows on the next lines (R110). -/
inductive Script where
  | done
  | line (l : Line) (rest : Script)
  | encode (ds : List Word) (rest : Script)
  | loadBuf (a : Word) (bs : List Byte) (rest : Script)
  | dumpBuf (a : Word) (k : Nat) (rest : Script)
  | check (n : Word) (rest : Script)
  | clrErr (rest : Script)
  | rep (n : Nat) (body : Script) (rest : Script)
  deriving DecidableEq, Repr

/-- The expansion of a script by the host's tools (R110). -/
def expand : Script → List Line
  | .done => []
  | .line l rest => l :: expand rest
  | .encode ds rest =>
    .wr .ctrl (commandCode .encBegin) :: ds.map (.wr .pulse) ++
      .wr .ctrl (commandCode .encEnd) :: expand rest
  | .loadBuf a bs rest => .wr .bufPtr a :: bs.map (fun b => .wr .bufData (b.setWidth 32)) ++ expand rest
  | .dumpBuf a k rest => .wr .bufPtr a :: List.replicate k (.rd .bufData none) ++ expand rest
  | .check n rest =>
    .wr .vlen n :: .wr .ctrl (commandCode .validate) :: .rd .vresult none :: expand rest
  | .clrErr rest => .wr .status 0x30 :: expand rest
  | .rep n body rest => (List.replicate n (expand body)).flatten ++ expand rest

/-- The port events of a script, in the order of its lines (R74, R109). -/
def scriptEvents (p : Script) : List PortEvent :=
  (expand p).map fun l => .access (accessOfHt (lineHt l))

/-- The state in which the host is about to run the script `p`, and nothing else (R301). -/
def loadScript (p : Script) (s : State) : State := { s with pending := scriptEvents p }

end Sys2Proof.Machine
end

