-- ==== Sys2Proof/Safety.lean ====
section
/-! DEFINITION. The invariant of IRPPE, and the runs that statements speak of. -/

namespace Sys2Proof.Machine

/-- BUF[0..3] hold 00 00 00 00 (spec/40_encoder.md R143). -/
def HeaderCleared (m : Memory) : Prop := ∀ a, a < Config.hdrLen → m.read a = some 0

/-- What holds in every state IRPPE can be in. -/
structure Inv (s : State) : Prop where
  /-- BUF is in its canonical form, every listed byte below BUF_SIZE. -/
  bufWf : s.buf.wf = true
  /-- R36: every accepted duration adds at least one byte to the payload. -/
  countLe : s.pcount.toNat ≤ s.paylen.toNat
  /-- R37: PKTLEN is 0, or the length of the packet for PAYLEN. -/
  pktlenEq : s.pktlen.toNat = 0 ∨ s.pktlen.toNat = ceil16 (Config.hdrLen + s.paylen.toNat)
  /-- A packet is ready exactly when PKTLEN is not 0 (R145, R146). -/
  readyIff : s.pktReady = true ↔ s.pktlen.toNat ≠ 0
  /-- R224: ENCODING and PKT_READY never hold together. -/
  encodingNotReady : s.mode = .encoding → s.pktReady = false
  /-- ENC_FAIL is written 0 by ENC_BEGIN and 1 only by ENC_END (R143, R145, R146). -/
  encodingNotFailed : s.mode = .encoding → s.encFail = false
  /-- ENC_FAIL is set only by an ENC_END with OVF = 1 (R40, R145). -/
  failedOvf : s.encFail = true → s.ovf = true
  /-- A session that has overflowed leaves no packet (R145, R262). -/
  ovfNotReady : s.ovf = true → s.pktReady = false
  /-- R143, R146: BUF[0..3] stay 00 00 00 00 during a session. -/
  encodingHeader : s.mode = .encoding → HeaderCleared s.buf
  /-- R49: VALID is 1 exactly when bits 4:1 are all 0, once a VALIDATE has run. -/
  verdict : s.vDone = true → (s.vres.getLsbD 0 = true ↔ s.vres.extractLsb' 1 4 = 0)
  /-- R49, R296: before the first VALIDATE, VRESULT reads 0. -/
  noVerdict : s.vDone = false → s.vres = 0

/-- The transactions `is`, one after the other (R74). -/
def execAll : List Instr → State → Result
  | [], s => .next s
  | i :: is, s =>
    match exec i s with
    | .next t => execAll is t
    | .fault r => .fault r
    | .refused r => .refused r

/-- What R147 allows inside a session besides PULSE writes: reads other than BUF_DATA, and writes to
VLEN, BUF_PTR and STATUS. -/
def allowedInSession : Instr → Bool
  | .rdId | .rdCtrl | .rdStatus | .rdPulse | .rdPaylen | .rdPktlen | .rdPcount | .rdLasttick
  | .rdVlen | .rdVresult | .rdBufPtr | .rdRsvd _ => true
  | .wrVlen _ | .wrBufPtr _ | .wrStatus _ => true
  | .rdBufData | .nop | .encBegin | .encEnd | .encAbort | .validate | .softReset | .wrCtrlIllegal _
  | .wrId _ | .wrPulse _ | .wrPaylen _ | .wrPktlen _ | .wrPcount _ | .wrLasttick _ | .wrVresult _
  | .wrBufData _ | .wrRsvd _ _ => false

/-- The duration a transaction presents to the encoder, if it is a PULSE write. -/
def pulseOf : Instr → Option Word
  | .wrPulse d => some d
  | .rdId | .rdCtrl | .rdStatus | .rdPulse | .rdPaylen | .rdPktlen | .rdPcount | .rdLasttick
  | .rdVlen | .rdVresult | .rdBufPtr | .rdBufData | .rdRsvd _
  | .nop | .encBegin | .encEnd | .encAbort | .validate | .softReset | .wrCtrlIllegal _
  | .wrId _ | .wrStatus _ | .wrPaylen _ | .wrPktlen _ | .wrPcount _ | .wrLasttick _ | .wrVlen _
  | .wrVresult _ | .wrBufPtr _ | .wrBufData _ | .wrRsvd _ _ => none

/-- The pulse train that a list of transactions presents, in order. -/
def pulsesOf (is : List Instr) : List Word := is.filterMap pulseOf

/-- The bytes `bs` lie in BUF from address `a` on. -/
def Holds (m : Memory) (a : Nat) (bs : List Byte) : Prop :=
  ∀ k, k < bs.length → m.read (a + k) = bs[k]?

end Sys2Proof.Machine
end

