-- ==== Sys2Proof/Certificates/Slice0/Obligations.lean ====
section
/-! DEFINITION. The statements for the provers, from the numbered rules of spec/. A frame is written as
`t = { s with f := t.f, ... }`: every field not named is unchanged. -/

open Sys2Proof Sys2Proof.Machine

/-! ## Encodings -/

/-- R100, R104: decoding the word of a well-formed transaction gives the transaction back, with every
operand at every value. -/
def Obligations.DecodeOfEncodeIsIdentity : Prop :=
  ∀ i : Instr, i.wellFormed = true → decode (encode i) = i

/-- R100: HT is total. Every word decodes to a well-formed transaction, and encoding it gives the word
back, but for the DATA of a read, which is ignored and written 0. -/
def Obligations.EncodeOfDecodeIsCanonical : Prop :=
  ∀ w : HT, (decode w).wellFormed = true ∧
    encode (decode w) = htWord (htWrite w) (htWidx w) (if htWrite w then htData w else 0)

/-- R104, every bullet: the command rows only on a full match, WR_CTRL_ILLEGAL for every other CTRL
write, the reserved rows, and one row for every other pair of W and WIDX whatever DATA is. -/
def Obligations.DecodeSelectsTheRow : Prop :=
  (∀ v : Word, decode (htWord true 1 v) =
      if v = 0x0 then .nop else if v = 0x1 then .encBegin else if v = 0x2 then .encEnd
      else if v = 0x3 then .encAbort else if v = 0x4 then .validate else if v = 0xF then .softReset
      else .wrCtrlIllegal v) ∧
  (∀ (k : BitVec 4) (v : Word), 12 ≤ k.toNat →
      decode (htWord false k v) = .rdRsvd (k.setWidth 2) ∧
      decode (htWord true k v) = .wrRsvd (k.setWidth 2) v) ∧
  (∀ v : Word,
      decode (htWord false 0 v) = .rdId ∧ decode (htWord true 0 v) = .wrId v ∧
      decode (htWord false 1 v) = .rdCtrl ∧
      decode (htWord false 2 v) = .rdStatus ∧ decode (htWord true 2 v) = .wrStatus v ∧
      decode (htWord false 3 v) = .rdPulse ∧ decode (htWord true 3 v) = .wrPulse v ∧
      decode (htWord false 4 v) = .rdPaylen ∧ decode (htWord true 4 v) = .wrPaylen v ∧
      decode (htWord false 5 v) = .rdPktlen ∧ decode (htWord true 5 v) = .wrPktlen v ∧
      decode (htWord false 6 v) = .rdPcount ∧ decode (htWord true 6 v) = .wrPcount v ∧
      decode (htWord false 7 v) = .rdLasttick ∧ decode (htWord true 7 v) = .wrLasttick v ∧
      decode (htWord false 8 v) = .rdVlen ∧ decode (htWord true 8 v) = .wrVlen v ∧
      decode (htWord false 9 v) = .rdVresult ∧ decode (htWord true 9 v) = .wrVresult v ∧
      decode (htWord false 10 v) = .rdBufPtr ∧ decode (htWord true 10 v) = .wrBufPtr v ∧
      decode (htWord false 11 v) = .rdBufData ∧ decode (htWord true 11 v) = .wrBufData v)

/-- Words written out in spec/95_test_vectors.md section 3 and in the HT columns of the rules. -/
def Obligations.SampleWordsDecode : Prop :=
  decode 0x1100000001 = .encBegin ∧ decode 0x1300000230 = .wrPulse 560 ∧
  decode 0x0400000000 = .rdPaylen ∧ decode 0x1100000002 = .encEnd ∧
  decode 0x1800000010 = .wrVlen 16 ∧ decode 0x1100000004 = .validate ∧
  decode 0x0900000000 = .rdVresult ∧ decode 0x1A00010010 = .wrBufPtr 65552 ∧
  decode 0x0B00000000 = .rdBufData ∧ decode 0x1B00000025 = .wrBufData 0x25 ∧
  decode 0x1200000030 = .wrStatus 0x30 ∧ decode 0x110000000F = .softReset ∧
  decode 0x1100000011 = .wrCtrlIllegal 0x11 ∧ decode 0x0F00000000 = .rdRsvd 3 ∧
  decode 0x1500000020 = .wrPktlen 32

/-- R109, R110: the words of the pseudo-instructions' expansions, as spec/95_test_vectors.md writes
them (P1, P3). -/
def Obligations.PseudoInstructionsExpand : Prop :=
  (expand (.encode [560, 1680, 8960] .done)).map lineHt =
    [0x1100000001, 0x1300000230, 0x1300000690, 0x1300002300, 0x1100000002] ∧
  (expand (.loadBuf 0 [0x26, 0x00] .done)).map lineHt = [0x1A00000000, 0x1B00000026, 0x1B00000000] ∧
  (expand (.dumpBuf 0 2 .done)).map lineHt = [0x1A00000000, 0x0B00000000, 0x0B00000000] ∧
  (expand (.check 16 .done)).map lineHt = [0x1800000010, 0x1100000004, 0x0900000000] ∧
  (expand (.clrErr .done)).map lineHt = [0x1200000030] ∧
  (expand (.rep 2 (.line (.wr .pulse 8407) .done) .done)).map lineHt = [0x13000020D7, 0x13000020D7]

/-! ## The step -/

/-- R74, R100: when the host's next access keeps the port protocol, step performs exactly the
transaction its word decodes to, on the state with that access taken off the pending events. -/
def Obligations.StepRunsTheDecodedTransaction : Prop :=
  (∀ (s : State) (a : Access) (rest : List PortEvent),
      s.pending = .access a :: rest → accessAllowed a = true →
      step s = exec (decode (accessHt a)) { s with pending := rest }) ∧
  (∀ w : HT, accessAllowed (accessOfHt w) = true ∧ accessHt (accessOfHt w) = w) ∧
  (∀ (s : State) (n w : Nat), w < 2 ^ 37 →
      step (s.withFetchWord n w) = exec (decode (BitVec.ofNat 37 w)) s)

/-- R73: an access outside the port protocol is refused, for each of the four reasons. -/
def Obligations.OutOfProtocolAccessIsRefused : Prop :=
  ∀ (s : State) (a : Access) (rest : List PortEvent), s.pending = .access a :: rest →
    (a.width ≠ 32 ∨ a.offset % 4 ≠ 0 ∨ 0x40 ≤ a.offset ∨ a.enables ≠ 0b1111) →
    step s = .refused .portProtocol

/-- The model's choice (log 2), after R5 and R301: with no event pending there is no step. -/
def Obligations.NoStepWithoutAnEvent : Prop :=
  ∀ s : State, s.pending = [] → step s = .refused .noTransaction

/-- R290, R221: a hard reset sets every element of R33 to its reset value and makes every BUF byte
unwritten; SOFT_RESET does the same in both modes, except that BUF is unchanged. The configuration is no
element of R33 (R32) and stays. -/
def Obligations.ResetEventsRestoreTheResetState : Prop :=
  ∀ s : State,
    (∀ rest : List PortEvent, s.pending = .hardReset :: rest → ∃ t : State, step s = .next t ∧
      t = { config := s.config, mode := .idle, paylen := 0, pcount := 0, lasttick := 0, pktlen := 0,
            pktReady := false, encFail := false, ovf := false, cmdErr := false,
            bufErr := false, vDone := false, vlen := 0, vres := 0, bufPtr := 0, buf := t.buf,
            draws := t.draws, pending := t.pending, readLog := t.readLog } ∧
      ∀ a : Nat, t.buf.read a = none) ∧
    exec .softReset s =
      .next { s with mode := .idle, paylen := 0, pcount := 0, lasttick := 0, pktlen := 0,
                     pktReady := false, encFail := false, ovf := false, cmdErr := false,
                     bufErr := false, vDone := false, vlen := 0, vres := 0, bufPtr := 0 }

/-- The model's choice (logs 1, 3, 4): a hard reset takes itself off the pending events and leaves the
rest of them, the data the host has read, and the count of draws. -/
def Obligations.HardResetKeepsTheHostSide : Prop :=
  ∀ (s t : State) (rest : List PortEvent), s.pending = .hardReset :: rest → step s = .next t →
    t.pending = rest ∧ t.readLog = s.readLog ∧ t.draws = s.draws

/-- R291: what the host reads after a hard reset, register by register; a buffer byte is unwritten and
its read is a fresh draw; SOFT_RESET leaves BUF unchanged. -/
def Obligations.ReadsAfterHardReset : Prop :=
  (∀ (s t : State) (rest : List PortEvent), s.pending = .hardReset :: rest → step s = .next t →
    t.mode = .idle ∧
    exec .rdStatus t = .next (t.answer 0) ∧
    exec .rdPaylen t = .next (t.answer 0) ∧
    exec .rdPktlen t = .next (t.answer 0) ∧
    exec .rdPcount t = .next (t.answer 0) ∧
    exec .rdLasttick t = .next (t.answer 0) ∧
    exec .rdVlen t = .next (t.answer 0) ∧
    exec .rdVresult t = .next (t.answer 0) ∧
    exec .rdBufPtr t = .next (t.answer 0) ∧
    exec .rdId t = .next (t.answer 0x49525045) ∧
    exec .rdCtrl t = .next (t.answer 0) ∧
    exec .rdPulse t = .next (t.answer 0) ∧
    (∀ k, exec (.rdRsvd k) t = .next (t.answer 0)) ∧
    (∀ a, t.buf.read a = none) ∧
    exec .rdBufData t =
      .next { t with bufPtr := 1, draws := t.draws + 1,
                     readLog := (Config.draw t.draws).setWidth 32 :: t.readLog }) ∧
  (∀ s t : State, exec .softReset s = .next t → t.buf = s.buf)

/-- The invariant holds at reset, and after a hard reset of any state. -/
def Obligations.ResetMeetsTheInvariant : Prop :=
  Inv State.reset ∧ ∀ s : State, Inv s.hardReset

/-- R6, R32: the tick ratio is a parameter with the stated default, and no transaction, reset or step
changes it. The machine with the default is the one State.reset starts. -/
def Obligations.ConfigurationNeverChanges : Prop :=
  State.reset = State.resetWith State.reset.config ∧
  State.reset.config.tickNum = 8192 ∧ State.reset.config.tickDen = 269000 ∧
  (∀ (i : Instr) (s t : State), exec i s = .next t → t.config = s.config) ∧
  (∀ s t : State, step s = .next t → t.config = s.config)

/-- R6, R144: on a machine with any tick ratio, from reset, ENC_BEGIN and one PULSE leave in LASTTICK the
quotient by that ratio, clamped to 65535. -/
def Obligations.EveryTickRatioRuns : Prop :=
  ∀ (c : Config) (d : Word), ∃ t : State,
    execAll [.encBegin, .wrPulse d] (State.resetWith c) = .next t ∧ t.config = c ∧
    t.lasttick.toNat = min (d.toNat * c.tickNum / c.tickDen) 65535 ∧
    t.paylen.toNat = (pack t.lasttick).length ∧ Holds t.buf 4 (pack t.lasttick)

/-- Every step keeps the invariant: BUF canonical (R71), PCOUNT at most PAYLEN (R36), PKTLEN the length
of the packet for PAYLEN (R37), the flags in agreement (R40, R224), the header cleared during a
session (R143, R146), VALID in agreement with the check bits (R49). -/
def Obligations.StepKeepsTheInvariant : Prop :=
  ∀ s t : State, Inv s → step s = .next t → Inv t

/-- R71, R263: every transaction completes, in every state: no internal access is ever outside BUF, and
nothing is refused. -/
def Obligations.EveryTransactionCompletes : Prop :=
  ∀ (i : Instr) (s : State), ∃ t, exec i s = .next t

/-! ## Register reads -/

/-- R223, R237: ID reads its constant, and the write-only registers read 0; nothing else changes. -/
def Obligations.ConstantRegisterReads : Prop :=
  ∀ s : State,
    exec .rdId s = .next { s with readLog := 0x49525045 :: s.readLog } ∧
    exec .rdCtrl s = .next { s with readLog := 0 :: s.readLog } ∧
    exec .rdPulse s = .next { s with readLog := 0 :: s.readLog }

/-- R240: a reserved offset reads 0 and ignores writes. -/
def Obligations.ReservedOffsetsReadZeroIgnoreWrites : Prop :=
  ∀ (k : BitVec 2) (v : Word) (s : State),
    exec (.rdRsvd k) s = .next { s with readLog := 0 :: s.readLog } ∧
    exec (.wrRsvd k v) s = .next s

/-- R224: the STATUS word, bit by bit, and the read clears nothing; ENCODING = 1 and PKT_READY = 1 never
hold together, in a state that meets the invariant. -/
def Obligations.StatusReadsItsBits : Prop :=
  ∀ s : State, ∃ w : Word,
    exec .rdStatus s = .next { s with readLog := w :: s.readLog } ∧
    w.getLsbD 6 = s.vDone ∧ w.getLsbD 5 = s.bufErr ∧ w.getLsbD 4 = s.cmdErr ∧ w.getLsbD 3 = s.ovf ∧
    w.getLsbD 2 = s.encFail ∧ w.getLsbD 1 = s.pktReady ∧
    (w.getLsbD 0 = true ↔ s.mode = .encoding) ∧
    (∀ k, 7 ≤ k → w.getLsbD k = false) ∧
    (Inv s → ¬ (w.getLsbD 0 = true ∧ w.getLsbD 1 = true))

/-- R225, R226, R227, R229: the encoder's registers read their elements, widened with zeros. -/
def Obligations.EncoderRegisterReads : Prop :=
  ∀ s : State,
    (∃ w : Word, exec .rdPaylen s = .next { s with readLog := w :: s.readLog } ∧
      w.toNat = s.paylen.toNat) ∧
    (∃ w : Word, exec .rdPktlen s = .next { s with readLog := w :: s.readLog } ∧
      w.toNat = s.pktlen.toNat) ∧
    (∃ w : Word, exec .rdPcount s = .next { s with readLog := w :: s.readLog } ∧
      w.toNat = s.pcount.toNat) ∧
    (∃ w : Word, exec .rdLasttick s = .next { s with readLog := w :: s.readLog } ∧
      w.toNat = s.lasttick.toNat)

/-- R230, R234, R236: VLEN and BUF_PTR read all 32 bits, VRESULT its five, widened with zeros. -/
def Obligations.ValidatorAndPointerReads : Prop :=
  ∀ s : State,
    exec .rdVlen s = .next { s with readLog := s.vlen :: s.readLog } ∧
    exec .rdBufPtr s = .next { s with readLog := s.bufPtr :: s.readLog } ∧
    ∃ w : Word, exec .rdVresult s = .next { s with readLog := w :: s.readLog } ∧
      w.toNat = s.vres.toNat

/-- R50: every element of R33 but BUF is visible through a register. Two states that answer the plain
register reads alike agree on all of them. -/
def Obligations.RegistersShowTheWholeState : Prop :=
  ∀ s t : State,
    (∀ i ∈ [Instr.rdStatus, .rdPaylen, .rdPktlen, .rdPcount, .rdLasttick, .rdVlen, .rdVresult, .rdBufPtr],
      ∃ v : Word, exec i s = .next (s.answer v) ∧ exec i t = .next (t.answer v)) →
    t = { s with config := t.config, buf := t.buf, draws := t.draws, pending := t.pending,
                 readLog := t.readLog }

/-! ## Register writes and plain commands -/

/-- R231, R235: VLEN and BUF_PTR keep every 32-bit value, in both modes, and nothing else changes. -/
def Obligations.VlenAndBufPtrStoreTheirValue : Prop :=
  ∀ (v : Word) (s : State),
    exec (.wrVlen v) s = .next { s with vlen := v } ∧
    exec (.wrBufPtr v) s = .next { s with bufPtr := v }

/-- R228: WR STATUS clears CMD_ERR and BUF_ERR where DATA[4] and DATA[5] are 1, and nothing else. -/
def Obligations.StatusWriteClearsOnes : Prop :=
  ∀ (v : Word) (s : State), ∃ t : State, exec (.wrStatus v) s = .next t ∧
    t = { s with cmdErr := t.cmdErr, bufErr := t.bufErr } ∧
    (v.getLsbD 4 = true → t.cmdErr = false) ∧ (v.getLsbD 4 = false → t.cmdErr = s.cmdErr) ∧
    (v.getLsbD 5 = true → t.bufErr = false) ∧ (v.getLsbD 5 = false → t.bufErr = s.bufErr)

/-- R238: a write to a read-only register is ignored. -/
def Obligations.ReadOnlyRegistersIgnoreWrites : Prop :=
  ∀ (v : Word) (s : State),
    exec (.wrId v) s = .next s ∧ exec (.wrPaylen v) s = .next s ∧ exec (.wrPktlen v) s = .next s ∧
    exec (.wrPcount v) s = .next s ∧ exec (.wrLasttick v) s = .next s ∧
    exec (.wrVresult v) s = .next s

/-- R220: NOP changes no state, in both modes; a CTRL write of 0x10 is not a NOP. -/
def Obligations.NopChangesNothing : Prop :=
  (∀ s : State, exec .nop s = .next s) ∧ decode (htWord true 1 0x10) = .wrCtrlIllegal 0x10

/-- R222: a CTRL write with a reserved bit or a reserved code raises CmdErr and does nothing else, in
both modes. -/
def Obligations.IllegalCommandsRaiseCmdErr : Prop :=
  ∀ (v : Word) (s : State),
    exec (.wrCtrlIllegal v) s = .next { s with cmdErr := true } ∧
    (v.extractLsb' 4 28 ≠ 0 ∨ (5 ≤ (v.extractLsb' 0 4).toNat ∧ (v.extractLsb' 0 4).toNat ≤ 14) →
      exec (decode (htWord true 1 v)) s = .next { s with cmdErr := true })

/-! ## The buffer window -/

/-- R232: RD BUF_DATA returns the byte at BUF_PTR, a fresh draw if it is unwritten, and advances the
pointer; out of range it raises BufErr, returns 0 and leaves the pointer. -/
def Obligations.BufDataReadReturnsTheByte : Prop :=
  ∀ s : State,
    (s.bufPtr.toNat < 65552 → ∃ t : State, exec .rdBufData s = .next t ∧
      t = { s with bufPtr := t.bufPtr, draws := t.draws, readLog := t.readLog } ∧
      t.bufPtr.toNat = s.bufPtr.toNat + 1 ∧
      (∀ b : Byte, s.buf.read s.bufPtr.toNat = some b →
        t.readLog = b.setWidth 32 :: s.readLog ∧ t.draws = s.draws) ∧
      (s.buf.read s.bufPtr.toNat = none →
        t.readLog = (Config.draw s.draws).setWidth 32 :: s.readLog ∧ t.draws = s.draws + 1)) ∧
    (65552 ≤ s.bufPtr.toNat →
      exec .rdBufData s = .next { s with bufErr := true, readLog := 0 :: s.readLog })

/-- R233: WR BUF_DATA writes DATA[7:0] at BUF_PTR and advances; in a session it raises CmdErr, out of
range BufErr, in this precedence, and then has no other effect. -/
def Obligations.BufDataWriteStoresTheByte : Prop :=
  ∀ (v : Word) (s : State),
    (s.mode = .idle → s.bufPtr.toNat < 65552 → ∃ t : State, exec (.wrBufData v) s = .next t ∧
      t = { s with bufPtr := t.bufPtr, buf := t.buf } ∧
      t.bufPtr.toNat = s.bufPtr.toNat + 1 ∧
      t.buf.read s.bufPtr.toNat = some (v.setWidth 8) ∧
      (∀ a, a ≠ s.bufPtr.toNat → t.buf.read a = s.buf.read a)) ∧
    (s.mode = .encoding → exec (.wrBufData v) s = .next { s with cmdErr := true }) ∧
    (s.mode = .idle → 65552 ≤ s.bufPtr.toNat →
      exec (.wrBufData v) s = .next { s with bufErr := true })

/-- R72: two reads of one unwritten byte are two draws, each a fresh one, and leave it unwritten. -/
def Obligations.UnwrittenByteDrawsAfresh : Prop :=
  ∀ s : State, s.bufPtr.toNat < 65552 → s.buf.read s.bufPtr.toNat = none →
    ∃ t : State, execAll [.rdBufData, .wrBufPtr s.bufPtr, .rdBufData] s = .next t ∧
      t.readLog = (Config.draw (s.draws + 1)).setWidth 32 :: (Config.draw s.draws).setWidth 32 ::
        s.readLog ∧
      t.draws = s.draws + 2 ∧ t.buf = s.buf

/-- R82(2), R84: a read of BUF_DATA returns what the last write of that byte left, DATA[31:8] ignored. -/
def Obligations.WrittenByteIsReadBack : Prop :=
  ∀ (s : State) (a v : Word), s.mode = .idle → a.toNat < 65552 →
    ∃ t : State, execAll [.wrBufPtr a, .wrBufData v, .wrBufPtr a, .rdBufData] s = .next t ∧
      t.readLog = (v.setWidth 8).setWidth 32 :: s.readLog ∧ t.draws = s.draws ∧
      (∀ b, b ≠ a.toNat → t.buf.read b = s.buf.read b)

/-! ## The encoder -/

/-- R140: the scaler on every 32-bit duration, and the corners the rule lists; for any tick ratio it is
the exact quotient, clamped. -/
def Obligations.ScaleDividesAndClamps : Prop :=
  (∀ (c : Config) (d : Word), (scale c d).toNat = min (d.toNat * c.tickNum / c.tickDen) 65535) ∧
  (∀ d : Word, (scale Config.device d).toNat = min (d.toNat * 8192 / 269000) 65535) ∧
  (∀ d : Word, d.toNat ≤ 32 ↔ scale Config.device d = 0) ∧
  (∀ d : Word, 2151968 ≤ d.toNat ↔ scale Config.device d = 65535) ∧
  (∀ d : Word, 2152000 ≤ d.toNat ↔ 65535 < d.toNat * 8192 / 269000) ∧
  (∀ d : Word, 0 < d.toNat → d.toNat * 8192 % 269000 = 0 → 33625 ≤ d.toNat) ∧
  scale Config.device 33 = 1 ∧ scale Config.device 65 = 1 ∧
  scale Config.device 560 = 17 ∧
  scale Config.device 8406 = 255 ∧ scale Config.device 8407 = 256 ∧
  scale Config.device 33625 = 1024 ∧ scale Config.device 2151967 = 65534 ∧
  2152000 * 8192 = 65536 * 269000

/-- R141, R107: the short form below 256 ticks, else 0x00 and the count big-endian. -/
def Obligations.PackUsesOneOrThreeBytes : Prop :=
  (∀ t : Tick, t.toNat < 256 → pack t = [t.setWidth 8]) ∧
  (∀ t : Tick, 256 ≤ t.toNat → ∃ hi lo : Byte, pack t = [0x00, hi, lo] ∧
      t.toNat = 256 * hi.toNat + lo.toNat ∧ 1 ≤ hi.toNat) ∧
  pack 0 = [0x00] ∧ pack 255 = [0xFF] ∧ pack 256 = [0x00, 0x01, 0x00] ∧
  pack 65535 = [0x00, 0xFF, 0xFF]

/-- R108: a payload without a zero tick decodes uniquely; with one it does not (the zero-tick element,
the tick 1 and the zero tick pack to the bytes of the tick 256). -/
def Obligations.NonzeroTicksPackUniquely : Prop :=
  (∀ ts us : List Tick, (∀ t ∈ ts, t ≠ 0) → (∀ u ∈ us, u ≠ 0) →
      ts.flatMap pack = us.flatMap pack → ts = us) ∧
  [(0 : Tick), 1, 0].flatMap pack = [(256 : Tick)].flatMap pack

/-- R142, R106: Frame puts the header, the payload and 0 to 15 zero bytes; Encode frames the payload, or
overflows when it is longer than 65535 bytes. -/
def Obligations.EncodeFramesThePayload : Prop :=
  (∀ p : List Byte, p.length ≤ 65535 → ∃ n : Nat, n ≤ 15 ∧
      frame p = [0x26, 0x00, BitVec.ofNat 8 p.length, BitVec.ofNat 8 (p.length / 256)] ++ p ++
        List.replicate n 0x00 ∧
      (frame p).length = (4 + p.length + 15) / 16 * 16) ∧
  (∀ (c : Config) (ds : List Word),
      payload c ds = (ds.map fun d => pack (scale c d)).flatten ∧
      ((payload c ds).length ≤ 65535 → encodeTrain c ds = some (frame (payload c ds))) ∧
      (65535 < (payload c ds).length → encodeTrain c ds = none)) ∧
  encodeTrain Config.device [] = some [0x26, 0, 0, 0, 0, 0, 0, 0, 0, 0, 0, 0, 0, 0, 0, 0] ∧
  (∀ p : List Byte, p.length = 12 → (frame p).length = 16) ∧
  (∀ p : List Byte, p.length = 13 → (frame p).length = 32) ∧
  (∀ p : List Byte, p.length = 65535 → (frame p).length = 65552)

/-- R143: ENC_BEGIN starts a session and zeroes BUF[0..3]; in a session it raises CmdErr and the session
goes on. -/
def Obligations.EncBeginStartsASession : Prop :=
  ∀ s : State,
    (s.mode = .idle → ∃ t : State, exec .encBegin s = .next t ∧
      t = { s with mode := .encoding, paylen := 0, pcount := 0, lasttick := 0, pktlen := 0,
                   pktReady := false, encFail := false, ovf := false, buf := t.buf } ∧
      (∀ a, a < 4 → t.buf.read a = some 0) ∧
      (∀ a, 4 ≤ a → t.buf.read a = s.buf.read a)) ∧
    (s.mode = .encoding → exec .encBegin s = .next { s with cmdErr := true })

/-- R144's pseudocode: PULSE scales, packs and appends; drops what does not fit and everything after it;
and raises CmdErr outside a session, with LASTTICK unchanged. A long form at PAYLEN 65533 does not fit,
against R144's corner, whose sum is wrong (log 13). -/
def Obligations.PulseAppendsItsElement : Prop :=
  ∀ (d : Word) (s : State),
    (s.mode = .idle → exec (.wrPulse d) s = .next { s with cmdErr := true }) ∧
    (s.mode = .encoding → s.ovf = true →
      exec (.wrPulse d) s = .next { s with lasttick := scale s.config d }) ∧
    (s.mode = .encoding → s.ovf = false →
      65535 < s.paylen.toNat + (pack (scale s.config d)).length →
      exec (.wrPulse d) s = .next { s with lasttick := scale s.config d, ovf := true }) ∧
    (s.mode = .encoding → s.ovf = false →
      s.paylen.toNat + (pack (scale s.config d)).length ≤ 65535 →
      ∃ t : State, exec (.wrPulse d) s = .next t ∧
        t = { s with lasttick := scale s.config d, paylen := t.paylen, pcount := s.pcount + 1,
                     buf := t.buf } ∧
        (s.pcount.toNat ≤ s.paylen.toNat → t.pcount.toNat = s.pcount.toNat + 1) ∧
        t.paylen.toNat = s.paylen.toNat + (pack (scale s.config d)).length ∧
        Holds t.buf (4 + s.paylen.toNat) (pack (scale s.config d)) ∧
        (∀ a, a < 4 + s.paylen.toNat ∨
            4 + s.paylen.toNat + (pack (scale s.config d)).length ≤ a →
          t.buf.read a = s.buf.read a))

/-- R145: ENC_END writes the header and the padding and closes the session; after an overflow it fails
the session and writes nothing; outside a session it raises CmdErr. -/
def Obligations.EncEndCompletesThePacket : Prop :=
  ∀ s : State,
    (s.mode = .idle → exec .encEnd s = .next { s with cmdErr := true }) ∧
    (s.mode = .encoding → s.ovf = true →
      exec .encEnd s =
        .next { s with mode := .idle, encFail := true, pktlen := 0, pktReady := false }) ∧
    (s.mode = .encoding → s.ovf = false → ∃ t : State, exec .encEnd s = .next t ∧
      t = { s with mode := .idle, pktlen := t.pktlen, pktReady := true, buf := t.buf } ∧
      t.pktlen.toNat = (4 + s.paylen.toNat + 15) / 16 * 16 ∧
      t.buf.read 0 = some 0x26 ∧ t.buf.read 1 = some 0x00 ∧
      t.buf.read 2 = some (s.paylen.extractLsb' 0 8) ∧
      t.buf.read 3 = some (s.paylen.extractLsb' 8 8) ∧
      (∀ a, 4 + s.paylen.toNat ≤ a → a < t.pktlen.toNat → t.buf.read a = some 0x00) ∧
      (∀ a, (4 ≤ a ∧ a < 4 + s.paylen.toNat) ∨ t.pktlen.toNat ≤ a →
        t.buf.read a = s.buf.read a))

/-- R146: ENC_ABORT closes the session with no packet and keeps BUF and the counts; BUF[0..3] stay
00 00 00 00 in a state that meets the invariant; outside a session it raises CmdErr. -/
def Obligations.EncAbortAbandonsTheSession : Prop :=
  ∀ s : State,
    (s.mode = .encoding → exec .encAbort s =
      .next { s with mode := .idle, pktlen := 0, pktReady := false }) ∧
    (s.mode = .encoding → Inv s → HeaderCleared s.buf ∧ s.encFail = false) ∧
    (s.mode = .idle → exec .encAbort s = .next { s with cmdErr := true })

/-- R147: a session computes Encode. Between ENC_BEGIN and ENC_END stand PULSE writes and, in any order
among them, the transactions R147 allows. CMD_ERR does not change unless an allowed WR STATUS clears
it (log 11). -/
def Obligations.SessionComputesEncode : Prop :=
  ∀ (s : State) (is : List Instr), s.mode = .idle →
    (∀ i ∈ is, allowedInSession i = true ∨ (pulseOf i).isSome = true) →
    ∃ t : State, execAll (.encBegin :: is ++ [.encEnd]) s = .next t ∧ t.mode = .idle ∧
      ((∀ v, Instr.wrStatus v ∈ is → v.getLsbD 4 = false) → t.cmdErr = s.cmdErr) ∧
      (∀ p : List Byte, encodeTrain s.config (pulsesOf is) = some p →
        Holds t.buf 0 p ∧ t.pktlen.toNat = p.length ∧
        t.paylen.toNat = (payload s.config (pulsesOf is)).length ∧
        t.paylen.toNat = declaredLength (p.getD 2 0) (p.getD 3 0) ∧
        t.pcount.toNat = (pulsesOf is).length ∧
        t.pktReady = true ∧ t.encFail = false ∧ t.ovf = false) ∧
      (encodeTrain s.config (pulsesOf is) = none →
        ∃ k : Nat, k ≤ (pulsesOf is).length ∧
          (payload s.config ((pulsesOf is).take k)).length ≤ 65535 ∧
          (∀ j, j ≤ (pulsesOf is).length →
            (payload s.config ((pulsesOf is).take j)).length ≤ 65535 → j ≤ k) ∧
          t.pcount.toNat = k ∧
          t.paylen.toNat = (payload s.config ((pulsesOf is).take k)).length ∧
          t.ovf = true ∧ t.encFail = true ∧ t.pktlen = 0 ∧ t.pktReady = false ∧
          (∀ a, a < 4 → t.buf.read a = some 0))

/-- R148(a), (b): every packet Encode makes passes Validate, and its length is a multiple of 16. -/
def Obligations.EncodedPacketsValidate : Prop :=
  ∀ (c : Config) (ds : List Word) (p : List Byte), encodeTrain c ds = some p →
    (validatePacket p).valid = true ∧ p.length % 16 = 0 ∧ 16 ≤ p.length ∧ p.length ≤ 65552

/-- R148(c): on machines of one configuration, what a session leaves in the packet, PKTLEN, PAYLEN and
PCOUNT depends on its durations alone, not on the state it started from. -/
def Obligations.PacketDependsOnlyOnTheTrain : Prop :=
  ∀ (s s' t t' : State) (ds : List Word), s.config = s'.config →
    s.mode = .idle → s'.mode = .idle →
    execAll (.encBegin :: ds.map .wrPulse ++ [.encEnd]) s = .next t →
    execAll (.encBegin :: ds.map .wrPulse ++ [.encEnd]) s' = .next t' →
    t.pktlen = t'.pktlen ∧ t.paylen = t'.paylen ∧ t.pcount = t'.pcount ∧ t.ovf = t'.ovf ∧
    t.lasttick = t'.lasttick ∧ (∀ a, a < t.pktlen.toNat → t.buf.read a = t'.buf.read a)

/-- R149: a train of short forms fits exactly up to 65535 durations, a train of long forms up to 21845,
and any mix whose byte total is at most 65535; no packet is longer than 65552 bytes, and the largest one
declares the length 0xFFFF. -/
def Obligations.CapacityOfASession : Prop :=
  (∀ (c : Config) (ds : List Word), (∀ d ∈ ds, (scale c d).toNat < 256) →
      ((encodeTrain c ds).isSome = true ↔ ds.length ≤ 65535)) ∧
  (∀ (c : Config) (ds : List Word), (∀ d ∈ ds, 256 ≤ (scale c d).toNat) →
      ((encodeTrain c ds).isSome = true ↔ ds.length ≤ 21845)) ∧
  (∀ (c : Config) (ds : List Word), (encodeTrain c ds).isSome = true ↔
      (ds.map fun d => (pack (scale c d)).length).sum ≤ 65535) ∧
  (∀ (c : Config) (ds : List Word) (p : List Byte), encodeTrain c ds = some p → p.length ≤ 65552) ∧
  (∀ p : List Byte, p.length = 65535 → (frame p).length = 65552 ∧
      (frame p)[2]? = some 0xFF ∧ (frame p)[3]? = some 0xFF)

/-! ## The validator -/

/-- R190: the four checks and the boolean, on any byte sequence. -/
def Obligations.ValidateMakesTheFourChecks : Prop :=
  ∀ p : List Byte,
    ((validatePacket p).shortFail = true ↔ p.length < 4) ∧
    ((validatePacket p).alignFail = true ↔ p.length % 16 ≠ 0) ∧
    ((validatePacket p).typeFail = true ↔ 4 ≤ p.length ∧ p[0]? ≠ some 0x26) ∧
    ((validatePacket p).lenFail = true ↔ 4 ≤ p.length ∧
      (4 + ((p.getD 2 0).toNat + 256 * (p.getD 3 0).toNat) + 15) / 16 * 16 ≠ p.length) ∧
    ((validatePacket p).valid = true ↔
      (validatePacket p).shortFail = false ∧ (validatePacket p).typeFail = false ∧
      (validatePacket p).alignFail = false ∧ (validatePacket p).lenFail = false) ∧
    (65552 < p.length → (validatePacket p).valid = false)

/-- R191: VALIDATE writes the five VRESULT bits and V_DONE. Of BUF it reads bytes 0, 2 and 3, and only
when VLEN is at least 4; each unwritten one is a fresh draw. In a session it raises CmdErr. -/
def Obligations.ValidateWritesTheVerdict : Prop :=
  ∀ s : State,
    (s.mode = .encoding → exec .validate s = .next { s with cmdErr := true }) ∧
    (s.mode = .idle → ∃ t : State, exec .validate s = .next t ∧
      t = { s with vres := t.vres, vDone := true, draws := t.draws } ∧
      (s.vlen.toNat < 4 →
        t.draws = s.draws ∧ t.vres = verdictBits (checkPacket s.vlen.toNat 0 0 0)) ∧
      (4 ≤ s.vlen.toNat → ∃ n2 n3 : Nat,
        n2 = s.draws + (if s.buf.read 0 = none then 1 else 0) ∧
        n3 = n2 + (if s.buf.read 2 = none then 1 else 0) ∧
        t.draws = n3 + (if s.buf.read 3 = none then 1 else 0) ∧
        t.vres = verdictBits (checkPacket s.vlen.toNat
          ((s.buf.read 0).getD (Config.draw s.draws))
          ((s.buf.read 2).getD (Config.draw n2))
          ((s.buf.read 3).getD (Config.draw n3)))) ∧
      (t.vres.getLsbD 1 = true ↔ s.vlen.toNat < 4) ∧
      (t.vres.getLsbD 3 = true ↔ s.vlen.toNat % 16 ≠ 0) ∧
      (65552 < s.vlen.toNat → t.vres.getLsbD 0 = false))

/-- R191 with R190: when BUF holds the bytes `p` and VLEN is their number, VALIDATE leaves the bits of
Validate(p) in VRESULT, at the positions of R49. -/
def Obligations.ValidateChecksTheBufferedBytes : Prop :=
  ∀ (s : State) (p : List Byte), s.mode = .idle → Holds s.buf 0 p → s.vlen.toNat = p.length →
    ∃ t : State, exec .validate s = .next t ∧
      t = { s with vres := t.vres, vDone := true } ∧
      t.vres.getLsbD 0 = (validatePacket p).valid ∧ t.vres.getLsbD 1 = (validatePacket p).shortFail ∧
      t.vres.getLsbD 2 = (validatePacket p).typeFail ∧
      t.vres.getLsbD 3 = (validatePacket p).alignFail ∧ t.vres.getLsbD 4 = (validatePacket p).lenFail

/-- R192: after a completed session, VALIDATE with VLEN = PKTLEN finds the packet valid. -/
def Obligations.CompletedSessionValidates : Prop :=
  ∀ s t : State, s.mode = .encoding → s.ovf = false → exec .encEnd s = .next t →
    0 < t.pktlen.toNat ∧
    ∃ u : State, execAll [.wrVlen (t.pktlen.setWidth 32), .validate] t = .next u ∧
      u.vres = 0b00001 ∧ u.vDone = true ∧ u.draws = t.draws

/-- R146, R262: after an aborted or a failed session there is no packet, and VALIDATE over any VLEN finds
BUF not valid. The invariant is a premise, since it holds BUF[0..3] at 0 in a session. -/
def Obligations.UnfinishedSessionNeverValidates : Prop :=
  ∀ (s : State) (v : Word), Inv s → s.mode = .encoding →
    (∃ t : State, execAll [.encAbort, .wrVlen v, .validate] s = .next t ∧
      t.vres.getLsbD 0 = false ∧ t.pktlen = 0 ∧ t.pktReady = false ∧ HeaderCleared t.buf) ∧
    (s.ovf = true → ∃ t : State, execAll [.encEnd, .wrVlen v, .validate] s = .next t ∧
      t.vres.getLsbD 0 = false ∧ t.encFail = true ∧ t.pktlen = 0 ∧ t.pktReady = false ∧
      HeaderCleared t.buf)

/-! ## Rules over all transactions -/

/-- R260, R266: exactly which transactions raise CmdErr and BufErr, in which mode and at which pointer,
and which set OVF and ENC_FAIL; a session check comes before the range check. -/
def Obligations.RaiseTable : Prop :=
  ∀ (i : Instr) (s t : State), exec i s = .next t →
    (s.cmdErr = false → (t.cmdErr = true ↔
      (s.mode = .encoding ∧ (i = .encBegin ∨ i = .validate ∨ ∃ v, i = .wrBufData v)) ∨
      (s.mode = .idle ∧ (i = .encEnd ∨ i = .encAbort ∨ ∃ v, i = .wrPulse v)) ∨
      (∃ v, i = .wrCtrlIllegal v))) ∧
    (s.bufErr = false → (t.bufErr = true ↔
      65552 ≤ s.bufPtr.toNat ∧ (i = .rdBufData ∨ (s.mode = .idle ∧ ∃ v, i = .wrBufData v)))) ∧
    (s.ovf = false → (t.ovf = true ↔
      s.mode = .encoding ∧ ∃ d, i = .wrPulse d ∧
        65535 < s.paylen.toNat + (pack (scale s.config d)).length)) ∧
    (s.encFail = false → (t.encFail = true ↔
      s.mode = .encoding ∧ s.ovf = true ∧ i = .encEnd))

/-- R265, R266: a transaction that raises performs none of its own effects but the zero read data of a
BUF_DATA read, and at most one raise happens per transaction. -/
def Obligations.RaisesArePrecise : Prop :=
  ∀ (i : Instr) (s t : State), exec i s = .next t →
    (s.cmdErr = false → t.cmdErr = true → t = { s with cmdErr := true }) ∧
    (s.bufErr = false → t.bufErr = true →
      t = { s with bufErr := true, readLog := t.readLog } ∧
      t.readLog = if i = .rdBufData then 0 :: s.readLog else s.readLog)

/-- R264, R40: CMD_ERR and BUF_ERR are cleared only by their W1C bits and SOFT_RESET, OVF and ENC_FAIL
only by ENC_BEGIN and SOFT_RESET, V_DONE only by SOFT_RESET, and PKT_READY, in a state that meets the
invariant, only by ENC_BEGIN and SOFT_RESET. -/
def Obligations.StickyFlagsStaySet : Prop :=
  ∀ (i : Instr) (s t : State), exec i s = .next t → i ≠ .softReset →
    (s.cmdErr = true → (∀ v, i = .wrStatus v → v.getLsbD 4 = false) → t.cmdErr = true) ∧
    (s.bufErr = true → (∀ v, i = .wrStatus v → v.getLsbD 5 = false) → t.bufErr = true) ∧
    (s.ovf = true → i ≠ .encBegin → t.ovf = true) ∧
    (s.encFail = true → i ≠ .encBegin → t.encFail = true) ∧
    (s.vDone = true → t.vDone = true) ∧
    (Inv s → s.pktReady = true → i ≠ .encBegin → t.pktReady = true)

/-- R40: ENC_BEGIN alone enters a session; ENC_END, ENC_ABORT and SOFT_RESET alone leave one. -/
def Obligations.ModeChangesOnlyByItsCommands : Prop :=
  ∀ (i : Instr) (s t : State), exec i s = .next t → s.mode ≠ t.mode →
    (i = .encBegin ∧ t.mode = .encoding) ∨
    ((i = .encEnd ∨ i = .encAbort ∨ i = .softReset) ∧ t.mode = .idle)

/-- R70(b), R72: only WR_BUF_DATA, ENC_BEGIN, PULSE and ENC_END write BUF, and no
transaction makes a written byte unwritten. -/
def Obligations.BufChangesOnlyByItsWriters : Prop :=
  ∀ (i : Instr) (s t : State), exec i s = .next t →
    ((∀ v, i ≠ .wrBufData v) → i ≠ .encBegin → (∀ d, i ≠ .wrPulse d) → i ≠ .encEnd →
      t.buf = s.buf) ∧
    (∀ a, (s.buf.read a).isSome = true → (t.buf.read a).isSome = true)

/-- R44: only a WR BUF_PTR and SOFT_RESET set BUF_PTR; every other transaction leaves it or adds 1, the
latter only below 65552, so it never wraps. -/
def Obligations.BufPtrNeverWraps : Prop :=
  ∀ (i : Instr) (s t : State), exec i s = .next t → (∀ v, i ≠ .wrBufPtr v) → i ≠ .softReset →
    t.bufPtr = s.bufPtr ∨
    (s.bufPtr.toNat < 65552 ∧ t.bufPtr.toNat = s.bufPtr.toNat + 1 ∧
      (i = .rdBufData ∨ ∃ v, i = .wrBufData v))

/-- R49, R48, R226, R238: VRESULT is written only by VALIDATE, VLEN only by its write, PKTLEN only by
ENC_BEGIN, ENC_END and ENC_ABORT. R42, R46, R47, R143 to R146: PAYLEN, PCOUNT and LASTTICK are written only
by ENC_BEGIN and PULSE, so they keep their values after the session. SOFT_RESET writes all of them. A host
cannot forge PKTLEN or VRESULT. -/
def Obligations.ResultRegistersHaveTheirWriters : Prop :=
  ∀ (i : Instr) (s t : State), exec i s = .next t → i ≠ .softReset →
    (i ≠ .validate → t.vres = s.vres) ∧
    ((∀ v, i ≠ .wrVlen v) → t.vlen = s.vlen) ∧
    (i ≠ .encBegin → i ≠ .encEnd → i ≠ .encAbort → t.pktlen = s.pktlen) ∧
    (i ≠ .encBegin → (∀ d, i ≠ .wrPulse d) →
      t.paylen = s.paylen ∧ t.pcount = s.pcount ∧ t.lasttick = s.lasttick)

/-- R100, R74: a read returns one 32-bit value and a write returns nothing; no transaction touches the
events after it; only RD_BUF_DATA and VALIDATE can consume draws. -/
def Obligations.ReadsAnswerWritesDoNot : Prop :=
  ∀ (i : Instr) (s t : State), exec i s = .next t →
    t.pending = s.pending ∧
    (htWrite (encode i) = true → t.readLog = s.readLog) ∧
    (htWrite (encode i) = false → ∃ v : Word, t.readLog = v :: s.readLog) ∧
    s.draws ≤ t.draws ∧ (i ≠ .rdBufData → i ≠ .validate → t.draws = s.draws)
end

