-- ==== Sys2Proof/Laws/Config.lean ====
section
/-! SUPPORT. The constants of R6 as numerals, for simp and omega. -/

namespace Sys2Proof

@[simp] theorem Config.tickMax_eq : Config.tickMax = 65535 := rfl
@[simp] theorem Config.shortLimit_eq : Config.shortLimit = 256 := rfl
@[simp] theorem Config.longPrefix_eq : Config.longPrefix = 0x00#8 := rfl
@[simp] theorem Config.hdrLen_eq : Config.hdrLen = 4 := rfl
@[simp] theorem Config.block_eq : Config.block = 16 := rfl
@[simp] theorem Config.cmdType_eq : Config.cmdType = 0x26#8 := rfl
@[simp] theorem Config.repeatByte_eq : Config.repeatByte = 0x00#8 := rfl
@[simp] theorem Config.payloadMax_eq : Config.payloadMax = 65535 := rfl
@[simp] theorem Config.pktMax_eq : Config.pktMax = 65552 := rfl
@[simp] theorem Config.bufSize_eq : Config.bufSize = 65552 := rfl
@[simp] theorem Config.portWidth_eq : Config.portWidth = 32 := rfl
@[simp] theorem Config.portWords_eq : Config.portWords = 16 := rfl
@[simp] theorem Config.idValue_eq : Config.idValue = 0x49525045#32 := rfl
@[simp] theorem Config.device_tickNum : Config.device.tickNum = 8192 := rfl
@[simp] theorem Config.device_tickDen : Config.device.tickDen = 269000 := rfl

end Sys2Proof
end

