-- ==== Sys2Proof/Laws/Codec.lean ====
section
/-! SUPPORT. Small facts of the pure functions: ceil16, Scale, Pack, the header bytes, the payload. -/

namespace Sys2Proof.Machine

/-- `ceil16` in numerals (R8). -/
theorem ceil16_eq (x : Nat) : ceil16 x = (x + 15) / 16 * 16 := rfl

theorem le_ceil16 (x : Nat) : x ≤ ceil16 x := by rw [ceil16_eq]; omega

theorem ceil16_lt (x : Nat) : ceil16 x < x + 16 := by rw [ceil16_eq]; omega

theorem ceil16_mod (x : Nat) : ceil16 x % 16 = 0 := by rw [ceil16_eq]; omega

/-- `ceil16` is the least multiple of 16 that is not below its argument (R8). -/
theorem ceil16_least {x y : Nat} (h : x ≤ y) (hy : y % 16 = 0) : ceil16 x ≤ y := by
  rw [ceil16_eq]; omega

theorem ceil16_mono {x y : Nat} (h : x ≤ y) : ceil16 x ≤ ceil16 y := by
  rw [ceil16_eq, ceil16_eq]; omega

/-- PKTLEN's 17 bits hold any packet length (R37). -/
theorem pktlen_toNat (n : BitVec 16) :
    (BitVec.ofNat 17 (ceil16 (4 + n.toNat))).toNat = ceil16 (4 + n.toNat) := by
  have := n.isLt; rw [BitVec.toNat_ofNat, Nat.mod_eq_of_lt]; rw [ceil16_eq]; omega

/-- Header and payload of any session, rounded up, fit in BUF (R71). -/
theorem ceil16_header_le (n : BitVec 16) : ceil16 (4 + n.toNat) ≤ 65552 := by
  have := n.isLt; rw [ceil16_eq]; omega

theorem scale_toNat (c : Config) (d : Word) : (scale c d).toNat = min (scaleQuotient c d) 65535 := by
  simp only [scale, BitVec.toNat_ofNat, Config.tickMax_eq]; omega

theorem lowByte_eq (t : BitVec 16) : lowByte t = t.setWidth 8 :=
  BitVec.eq_of_toNat_eq (by simp [lowByte, BitVec.extractLsb'_toNat])

@[simp] theorem lowByte_toNat (t : BitVec 16) : (lowByte t).toNat = t.toNat % 256 := by
  simp [lowByte, BitVec.extractLsb'_toNat]

@[simp] theorem highByte_toNat (t : BitVec 16) : (highByte t).toNat = t.toNat / 256 := by
  have := t.isLt
  simp only [highByte, BitVec.extractLsb'_toNat, Nat.shiftRight_eq_div_pow]; omega

/-- The length bytes of a header declare the length they were made from (R75). -/
@[simp] theorem declaredLength_bytes (t : BitVec 16) :
    declaredLength (lowByte t) (highByte t) = t.toNat := by
  simp only [declaredLength, lowByte_toNat, highByte_toNat]; omega

theorem pack_short {t : Tick} (h : t.toNat < 256) : pack t = [lowByte t] := by simp [pack, h]

theorem pack_long {t : Tick} (h : 256 ≤ t.toNat) : pack t = [0x00, highByte t, lowByte t] := by
  simp [pack, Nat.not_lt.mpr h]

theorem pack_length (t : Tick) : (pack t).length = if t.toNat < 256 then 1 else 3 := by
  unfold pack; split <;> rfl

theorem pack_length_pos (t : Tick) : 1 ≤ (pack t).length := by rw [pack_length]; split <;> omega

theorem pack_length_le (t : Tick) : (pack t).length ≤ 3 := by rw [pack_length]; split <;> omega

@[simp] theorem header_length (n : BitVec 16) : (header n).length = 4 := rfl

@[simp] theorem padding_length (n : Nat) : (padding n).length = ceil16 n - n := by simp [padding]

@[simp] theorem payload_nil (c : Config) : payload c [] = [] := rfl

theorem payload_append (c : Config) (ds es : List Word) :
    payload c (ds ++ es) = payload c ds ++ payload c es := by simp [payload]

theorem payload_cons (c : Config) (d : Word) (ds : List Word) :
    payload c (d :: ds) = pack (scale c d) ++ payload c ds := by simp [payload]

/-- A train has at most as many durations as its payload has bytes (R36). -/
theorem length_le_payload (c : Config) (ds : List Word) : ds.length ≤ (payload c ds).length := by
  induction ds with
  | nil => simp
  | cons d ds ih =>
    have := pack_length_pos (scale c d)
    simp only [payload_cons, List.length_cons, List.length_append]; omega

/-- The payload of a prefix is no longer than the whole payload. -/
theorem payload_take_le (c : Config) (ds : List Word) (k : Nat) :
    (payload c (ds.take k)).length ≤ (payload c ds).length := by
  conv_rhs => rw [← List.take_append_drop k ds, payload_append, List.length_append]
  omega

@[simp] theorem frame_length (p : List Byte) : (frame p).length = ceil16 (4 + p.length) := by
  have := le_ceil16 (4 + p.length)
  simp only [frame, List.length_append, header_length, padding_length, Config.hdrLen_eq]; omega

end Sys2Proof.Machine
end

