-- ==== Sys2Proof/Laws/Memory.lean ====
section
/-! SUPPORT. The laws of the packet buffer: a read after a write gives the value written, a write leaves
every other byte alone, and every operation keeps the canonical form. -/

namespace Sys2Proof.Machine

@[simp] theorem Memory.read_nil (a : Nat) : Memory.read [] a = none := rfl

/-- A read after a write to the same byte gives the value written. -/
@[simp] theorem Memory.read_write_same (m : Memory) (a : Nat) (v : Byte) :
    (m.write a v).read a = some v := by
  induction m with
  | nil => simp [Memory.write, Memory.read]
  | cons e m ih =>
    obtain ⟨k, w⟩ := e
    simp only [Memory.write]
    split
    · simp [Memory.read]
    · split
      · simp [Memory.read]
      · rename_i h; simp [Memory.read, h, ih]

/-- A write leaves every other byte alone. -/
theorem Memory.read_write_other (m : Memory) {a b : Nat} (v : Byte) (h : b ≠ a) :
    (m.write a v).read b = m.read b := by
  induction m with
  | nil => simp [Memory.write, Memory.read, h]
  | cons e m ih =>
    obtain ⟨k, w⟩ := e
    simp only [Memory.write]
    split
    · simp [Memory.read, h]
    · split
      · rename_i h'; subst h'; simp [Memory.read, h]
      · simp [Memory.read, ih]

/-- A write of several bytes leaves every byte outside them alone. -/
theorem Memory.read_writeBytes_outside (m : Memory) (a : Nat) (bs : List Byte) {b : Nat}
    (h : b < a ∨ a + bs.length ≤ b) : (m.writeBytes a bs).read b = m.read b := by
  induction bs generalizing m a with
  | nil => rfl
  | cons v bs ih =>
    simp only [List.length_cons] at h
    rw [Memory.writeBytes, ih _ _ (by omega), Memory.read_write_other _ _ (by omega)]

/-- A write of several bytes puts the `k`-th of them at address `a + k`. -/
theorem Memory.read_writeBytes_inside (m : Memory) (a : Nat) (bs : List Byte) {k : Nat}
    (h : k < bs.length) : (m.writeBytes a bs).read (a + k) = bs[k]? := by
  induction bs generalizing m a k with
  | nil => simp at h
  | cons v bs ih =>
    rw [Memory.writeBytes]
    cases k with
    | zero => simp [Memory.read_writeBytes_outside _ _ _ (Or.inl (Nat.lt_succ_self a))]
    | succ k =>
      simp only [List.length_cons] at h
      rw [show a + (k + 1) = a + 1 + k by omega, ih _ _ (by omega)]
      simp

/-- A write keeps the canonical form. -/
theorem Memory.wfFrom_write {lo : Nat} {m : Memory} {a : Nat} (v : Byte) (ha : lo ≤ a)
    (hb : a < Config.bufSize) (h : m.wfFrom lo = true) : (m.write a v).wfFrom lo = true := by
  induction m generalizing lo with
  | nil => simp [Memory.write, Memory.wfFrom, ha, hb]
  | cons e m ih =>
    obtain ⟨k, w⟩ := e
    simp only [Memory.wfFrom, Bool.and_eq_true, decide_eq_true_eq] at h
    obtain ⟨⟨h1, h2⟩, h3⟩ := h
    simp only [Memory.write]
    split
    · simp only [Memory.wfFrom, Bool.and_eq_true, decide_eq_true_eq]
      exact ⟨⟨ha, hb⟩, ⟨by omega, h2⟩, h3⟩
    · split
      · rename_i h'; subst h'
        simp only [Memory.wfFrom, Bool.and_eq_true, decide_eq_true_eq]
        exact ⟨⟨ha, hb⟩, h3⟩
      · simp only [Memory.wfFrom, Bool.and_eq_true, decide_eq_true_eq]
        exact ⟨⟨h1, h2⟩, ih (by omega) h3⟩

/-- A write to a byte of BUF keeps the canonical form. -/
theorem Memory.wf_write {m : Memory} {a : Nat} (v : Byte) (hb : a < Config.bufSize)
    (h : m.wf = true) : (m.write a v).wf = true :=
  Memory.wfFrom_write v (Nat.zero_le a) hb h

/-- A write of several bytes of BUF keeps the canonical form. -/
theorem Memory.wf_writeBytes {m : Memory} {a : Nat} {bs : List Byte}
    (hb : a + bs.length ≤ Config.bufSize) (h : m.wf = true) : (m.writeBytes a bs).wf = true := by
  induction bs generalizing m a with
  | nil => exact h
  | cons v bs ih =>
    simp only [List.length_cons] at hb
    exact ih (by omega) (Memory.wf_write v (by omega) h)

/-- In canonical form no byte below the first possible address is written. -/
theorem Memory.read_below {lo a : Nat} {m : Memory} (h : m.wfFrom lo = true) (ha : a < lo) :
    m.read a = none := by
  induction m generalizing lo with
  | nil => rfl
  | cons e m ih =>
    obtain ⟨k, w⟩ := e
    simp only [Memory.wfFrom, Bool.and_eq_true, decide_eq_true_eq] at h
    simp [Memory.read, show a ≠ k by omega, ih h.2 (by omega)]

/-- No byte at or above BUF_SIZE is ever written (R71). -/
theorem Memory.read_above {lo a : Nat} {m : Memory} (h : m.wfFrom lo = true)
    (ha : Config.bufSize ≤ a) : m.read a = none := by
  induction m generalizing lo with
  | nil => rfl
  | cons e m ih =>
    obtain ⟨k, w⟩ := e
    simp only [Memory.wfFrom, Bool.and_eq_true, decide_eq_true_eq] at h
    simp [Memory.read, show a ≠ k by omega, ih h.2]

/-- Equal reads, equal buffers: the canonical form is unique. -/
theorem Memory.ext_of_wfFrom {lo : Nat} {m n : Memory} (hm : m.wfFrom lo = true)
    (hn : n.wfFrom lo = true) (h : ∀ a, m.read a = n.read a) : m = n := by
  induction m generalizing lo n with
  | nil =>
    cases n with
    | nil => rfl
    | cons e n => have := h e.1; simp [Memory.read] at this
  | cons e m ih =>
    obtain ⟨k, v⟩ := e
    cases n with
    | nil => have := h k; simp [Memory.read] at this
    | cons e' n =>
      obtain ⟨k', v'⟩ := e'
      simp only [Memory.wfFrom, Bool.and_eq_true, decide_eq_true_eq] at hm hn
      have hkk : k = k' := by
        rcases Nat.lt_trichotomy k k' with hlt | heq | hgt
        · have := h k
          simp [Memory.read, show k ≠ k' by omega, Memory.read_below hn.2 (show k < k' + 1 by omega)] at this
        · exact heq
        · have := h k'
          simp [Memory.read, show k' ≠ k by omega, Memory.read_below hm.2 (show k' < k + 1 by omega)] at this
      subst hkk
      have hv : v = v' := by have := h k; simpa [Memory.read] using this
      subst hv
      rw [ih hm.2 hn.2 fun a => ?_]
      by_cases ha : a = k
      · rw [ha, Memory.read_below hm.2 (Nat.lt_succ_self k), Memory.read_below hn.2 (Nat.lt_succ_self k)]
      · have := h a; simpa [Memory.read, ha] using this

end Sys2Proof.Machine
end

