-- ==== Sys2Proof/Laws/State.lean ====
section
/-! SUPPORT. One lemma per field per named update of State, each true by rfl, so that no proof unfolds
a record update. -/

namespace Sys2Proof.Machine

/-- The machine of this specification is the one with the default parameters (R6). -/
@[simp] theorem State.resetWith_device : State.resetWith Config.device = State.reset := rfl
@[simp] theorem State.resetWith_config (c : Config) : (State.resetWith c).config = c := rfl
@[simp] theorem State.reset_config : State.reset.config = Config.device := rfl

@[simp] theorem State.setBuf_config (m : Memory) (s : State) : (s.setBuf m).config = s.config := rfl
@[simp] theorem State.setBuf_mode (m : Memory) (s : State) : (s.setBuf m).mode = s.mode := rfl
@[simp] theorem State.setBuf_paylen (m : Memory) (s : State) : (s.setBuf m).paylen = s.paylen := rfl
@[simp] theorem State.setBuf_pcount (m : Memory) (s : State) : (s.setBuf m).pcount = s.pcount := rfl
@[simp] theorem State.setBuf_lasttick (m : Memory) (s : State) : (s.setBuf m).lasttick = s.lasttick := rfl
@[simp] theorem State.setBuf_pktlen (m : Memory) (s : State) : (s.setBuf m).pktlen = s.pktlen := rfl
@[simp] theorem State.setBuf_pktReady (m : Memory) (s : State) : (s.setBuf m).pktReady = s.pktReady := rfl
@[simp] theorem State.setBuf_encFail (m : Memory) (s : State) : (s.setBuf m).encFail = s.encFail := rfl
@[simp] theorem State.setBuf_ovf (m : Memory) (s : State) : (s.setBuf m).ovf = s.ovf := rfl
@[simp] theorem State.setBuf_cmdErr (m : Memory) (s : State) : (s.setBuf m).cmdErr = s.cmdErr := rfl
@[simp] theorem State.setBuf_bufErr (m : Memory) (s : State) : (s.setBuf m).bufErr = s.bufErr := rfl
@[simp] theorem State.setBuf_vDone (m : Memory) (s : State) : (s.setBuf m).vDone = s.vDone := rfl
@[simp] theorem State.setBuf_vlen (m : Memory) (s : State) : (s.setBuf m).vlen = s.vlen := rfl
@[simp] theorem State.setBuf_vres (m : Memory) (s : State) : (s.setBuf m).vres = s.vres := rfl
@[simp] theorem State.setBuf_bufPtr (m : Memory) (s : State) : (s.setBuf m).bufPtr = s.bufPtr := rfl
@[simp] theorem State.setBuf_buf (m : Memory) (s : State) : (s.setBuf m).buf = m := rfl
@[simp] theorem State.setBuf_draws (m : Memory) (s : State) : (s.setBuf m).draws = s.draws := rfl
@[simp] theorem State.setBuf_pending (m : Memory) (s : State) : (s.setBuf m).pending = s.pending := rfl
@[simp] theorem State.setBuf_readLog (m : Memory) (s : State) : (s.setBuf m).readLog = s.readLog := rfl

@[simp] theorem State.drawn_config (s : State) : (s.drawn).config = s.config := rfl
@[simp] theorem State.drawn_mode (s : State) : (s.drawn).mode = s.mode := rfl
@[simp] theorem State.drawn_paylen (s : State) : (s.drawn).paylen = s.paylen := rfl
@[simp] theorem State.drawn_pcount (s : State) : (s.drawn).pcount = s.pcount := rfl
@[simp] theorem State.drawn_lasttick (s : State) : (s.drawn).lasttick = s.lasttick := rfl
@[simp] theorem State.drawn_pktlen (s : State) : (s.drawn).pktlen = s.pktlen := rfl
@[simp] theorem State.drawn_pktReady (s : State) : (s.drawn).pktReady = s.pktReady := rfl
@[simp] theorem State.drawn_encFail (s : State) : (s.drawn).encFail = s.encFail := rfl
@[simp] theorem State.drawn_ovf (s : State) : (s.drawn).ovf = s.ovf := rfl
@[simp] theorem State.drawn_cmdErr (s : State) : (s.drawn).cmdErr = s.cmdErr := rfl
@[simp] theorem State.drawn_bufErr (s : State) : (s.drawn).bufErr = s.bufErr := rfl
@[simp] theorem State.drawn_vDone (s : State) : (s.drawn).vDone = s.vDone := rfl
@[simp] theorem State.drawn_vlen (s : State) : (s.drawn).vlen = s.vlen := rfl
@[simp] theorem State.drawn_vres (s : State) : (s.drawn).vres = s.vres := rfl
@[simp] theorem State.drawn_bufPtr (s : State) : (s.drawn).bufPtr = s.bufPtr := rfl
@[simp] theorem State.drawn_buf (s : State) : (s.drawn).buf = s.buf := rfl
@[simp] theorem State.drawn_draws (s : State) : (s.drawn).draws = s.draws + 1 := rfl
@[simp] theorem State.drawn_pending (s : State) : (s.drawn).pending = s.pending := rfl
@[simp] theorem State.drawn_readLog (s : State) : (s.drawn).readLog = s.readLog := rfl

@[simp] theorem State.answer_config (v : Word) (s : State) : (s.answer v).config = s.config := rfl
@[simp] theorem State.answer_mode (v : Word) (s : State) : (s.answer v).mode = s.mode := rfl
@[simp] theorem State.answer_paylen (v : Word) (s : State) : (s.answer v).paylen = s.paylen := rfl
@[simp] theorem State.answer_pcount (v : Word) (s : State) : (s.answer v).pcount = s.pcount := rfl
@[simp] theorem State.answer_lasttick (v : Word) (s : State) : (s.answer v).lasttick = s.lasttick := rfl
@[simp] theorem State.answer_pktlen (v : Word) (s : State) : (s.answer v).pktlen = s.pktlen := rfl
@[simp] theorem State.answer_pktReady (v : Word) (s : State) : (s.answer v).pktReady = s.pktReady := rfl
@[simp] theorem State.answer_encFail (v : Word) (s : State) : (s.answer v).encFail = s.encFail := rfl
@[simp] theorem State.answer_ovf (v : Word) (s : State) : (s.answer v).ovf = s.ovf := rfl
@[simp] theorem State.answer_cmdErr (v : Word) (s : State) : (s.answer v).cmdErr = s.cmdErr := rfl
@[simp] theorem State.answer_bufErr (v : Word) (s : State) : (s.answer v).bufErr = s.bufErr := rfl
@[simp] theorem State.answer_vDone (v : Word) (s : State) : (s.answer v).vDone = s.vDone := rfl
@[simp] theorem State.answer_vlen (v : Word) (s : State) : (s.answer v).vlen = s.vlen := rfl
@[simp] theorem State.answer_vres (v : Word) (s : State) : (s.answer v).vres = s.vres := rfl
@[simp] theorem State.answer_bufPtr (v : Word) (s : State) : (s.answer v).bufPtr = s.bufPtr := rfl
@[simp] theorem State.answer_buf (v : Word) (s : State) : (s.answer v).buf = s.buf := rfl
@[simp] theorem State.answer_draws (v : Word) (s : State) : (s.answer v).draws = s.draws := rfl
@[simp] theorem State.answer_pending (v : Word) (s : State) : (s.answer v).pending = s.pending := rfl
@[simp] theorem State.answer_readLog (v : Word) (s : State) : (s.answer v).readLog = v :: s.readLog := rfl

@[simp] theorem State.setCmdErr_config (s : State) : (s.setCmdErr).config = s.config := rfl
@[simp] theorem State.setCmdErr_mode (s : State) : (s.setCmdErr).mode = s.mode := rfl
@[simp] theorem State.setCmdErr_paylen (s : State) : (s.setCmdErr).paylen = s.paylen := rfl
@[simp] theorem State.setCmdErr_pcount (s : State) : (s.setCmdErr).pcount = s.pcount := rfl
@[simp] theorem State.setCmdErr_lasttick (s : State) : (s.setCmdErr).lasttick = s.lasttick := rfl
@[simp] theorem State.setCmdErr_pktlen (s : State) : (s.setCmdErr).pktlen = s.pktlen := rfl
@[simp] theorem State.setCmdErr_pktReady (s : State) : (s.setCmdErr).pktReady = s.pktReady := rfl
@[simp] theorem State.setCmdErr_encFail (s : State) : (s.setCmdErr).encFail = s.encFail := rfl
@[simp] theorem State.setCmdErr_ovf (s : State) : (s.setCmdErr).ovf = s.ovf := rfl
@[simp] theorem State.setCmdErr_cmdErr (s : State) : (s.setCmdErr).cmdErr = true := rfl
@[simp] theorem State.setCmdErr_bufErr (s : State) : (s.setCmdErr).bufErr = s.bufErr := rfl
@[simp] theorem State.setCmdErr_vDone (s : State) : (s.setCmdErr).vDone = s.vDone := rfl
@[simp] theorem State.setCmdErr_vlen (s : State) : (s.setCmdErr).vlen = s.vlen := rfl
@[simp] theorem State.setCmdErr_vres (s : State) : (s.setCmdErr).vres = s.vres := rfl
@[simp] theorem State.setCmdErr_bufPtr (s : State) : (s.setCmdErr).bufPtr = s.bufPtr := rfl
@[simp] theorem State.setCmdErr_buf (s : State) : (s.setCmdErr).buf = s.buf := rfl
@[simp] theorem State.setCmdErr_draws (s : State) : (s.setCmdErr).draws = s.draws := rfl
@[simp] theorem State.setCmdErr_pending (s : State) : (s.setCmdErr).pending = s.pending := rfl
@[simp] theorem State.setCmdErr_readLog (s : State) : (s.setCmdErr).readLog = s.readLog := rfl

@[simp] theorem State.setBufErr_config (s : State) : (s.setBufErr).config = s.config := rfl
@[simp] theorem State.setBufErr_mode (s : State) : (s.setBufErr).mode = s.mode := rfl
@[simp] theorem State.setBufErr_paylen (s : State) : (s.setBufErr).paylen = s.paylen := rfl
@[simp] theorem State.setBufErr_pcount (s : State) : (s.setBufErr).pcount = s.pcount := rfl
@[simp] theorem State.setBufErr_lasttick (s : State) : (s.setBufErr).lasttick = s.lasttick := rfl
@[simp] theorem State.setBufErr_pktlen (s : State) : (s.setBufErr).pktlen = s.pktlen := rfl
@[simp] theorem State.setBufErr_pktReady (s : State) : (s.setBufErr).pktReady = s.pktReady := rfl
@[simp] theorem State.setBufErr_encFail (s : State) : (s.setBufErr).encFail = s.encFail := rfl
@[simp] theorem State.setBufErr_ovf (s : State) : (s.setBufErr).ovf = s.ovf := rfl
@[simp] theorem State.setBufErr_cmdErr (s : State) : (s.setBufErr).cmdErr = s.cmdErr := rfl
@[simp] theorem State.setBufErr_bufErr (s : State) : (s.setBufErr).bufErr = true := rfl
@[simp] theorem State.setBufErr_vDone (s : State) : (s.setBufErr).vDone = s.vDone := rfl
@[simp] theorem State.setBufErr_vlen (s : State) : (s.setBufErr).vlen = s.vlen := rfl
@[simp] theorem State.setBufErr_vres (s : State) : (s.setBufErr).vres = s.vres := rfl
@[simp] theorem State.setBufErr_bufPtr (s : State) : (s.setBufErr).bufPtr = s.bufPtr := rfl
@[simp] theorem State.setBufErr_buf (s : State) : (s.setBufErr).buf = s.buf := rfl
@[simp] theorem State.setBufErr_draws (s : State) : (s.setBufErr).draws = s.draws := rfl
@[simp] theorem State.setBufErr_pending (s : State) : (s.setBufErr).pending = s.pending := rfl
@[simp] theorem State.setBufErr_readLog (s : State) : (s.setBufErr).readLog = s.readLog := rfl

@[simp] theorem State.advancePtr_config (s : State) : (s.advancePtr).config = s.config := rfl
@[simp] theorem State.advancePtr_mode (s : State) : (s.advancePtr).mode = s.mode := rfl
@[simp] theorem State.advancePtr_paylen (s : State) : (s.advancePtr).paylen = s.paylen := rfl
@[simp] theorem State.advancePtr_pcount (s : State) : (s.advancePtr).pcount = s.pcount := rfl
@[simp] theorem State.advancePtr_lasttick (s : State) : (s.advancePtr).lasttick = s.lasttick := rfl
@[simp] theorem State.advancePtr_pktlen (s : State) : (s.advancePtr).pktlen = s.pktlen := rfl
@[simp] theorem State.advancePtr_pktReady (s : State) : (s.advancePtr).pktReady = s.pktReady := rfl
@[simp] theorem State.advancePtr_encFail (s : State) : (s.advancePtr).encFail = s.encFail := rfl
@[simp] theorem State.advancePtr_ovf (s : State) : (s.advancePtr).ovf = s.ovf := rfl
@[simp] theorem State.advancePtr_cmdErr (s : State) : (s.advancePtr).cmdErr = s.cmdErr := rfl
@[simp] theorem State.advancePtr_bufErr (s : State) : (s.advancePtr).bufErr = s.bufErr := rfl
@[simp] theorem State.advancePtr_vDone (s : State) : (s.advancePtr).vDone = s.vDone := rfl
@[simp] theorem State.advancePtr_vlen (s : State) : (s.advancePtr).vlen = s.vlen := rfl
@[simp] theorem State.advancePtr_vres (s : State) : (s.advancePtr).vres = s.vres := rfl
@[simp] theorem State.advancePtr_bufPtr (s : State) : (s.advancePtr).bufPtr = s.bufPtr + 1 := rfl
@[simp] theorem State.advancePtr_buf (s : State) : (s.advancePtr).buf = s.buf := rfl
@[simp] theorem State.advancePtr_draws (s : State) : (s.advancePtr).draws = s.draws := rfl
@[simp] theorem State.advancePtr_pending (s : State) : (s.advancePtr).pending = s.pending := rfl
@[simp] theorem State.advancePtr_readLog (s : State) : (s.advancePtr).readLog = s.readLog := rfl

@[simp] theorem State.beginSession_config (s : State) : (s.beginSession).config = s.config := rfl
@[simp] theorem State.beginSession_mode (s : State) : (s.beginSession).mode = .encoding := rfl
@[simp] theorem State.beginSession_paylen (s : State) : (s.beginSession).paylen = 0 := rfl
@[simp] theorem State.beginSession_pcount (s : State) : (s.beginSession).pcount = 0 := rfl
@[simp] theorem State.beginSession_lasttick (s : State) : (s.beginSession).lasttick = 0 := rfl
@[simp] theorem State.beginSession_pktlen (s : State) : (s.beginSession).pktlen = 0 := rfl
@[simp] theorem State.beginSession_pktReady (s : State) : (s.beginSession).pktReady = false := rfl
@[simp] theorem State.beginSession_encFail (s : State) : (s.beginSession).encFail = false := rfl
@[simp] theorem State.beginSession_ovf (s : State) : (s.beginSession).ovf = false := rfl
@[simp] theorem State.beginSession_cmdErr (s : State) : (s.beginSession).cmdErr = s.cmdErr := rfl
@[simp] theorem State.beginSession_bufErr (s : State) : (s.beginSession).bufErr = s.bufErr := rfl
@[simp] theorem State.beginSession_vDone (s : State) : (s.beginSession).vDone = s.vDone := rfl
@[simp] theorem State.beginSession_vlen (s : State) : (s.beginSession).vlen = s.vlen := rfl
@[simp] theorem State.beginSession_vres (s : State) : (s.beginSession).vres = s.vres := rfl
@[simp] theorem State.beginSession_bufPtr (s : State) : (s.beginSession).bufPtr = s.bufPtr := rfl
@[simp] theorem State.beginSession_buf (s : State) : (s.beginSession).buf = s.buf := rfl
@[simp] theorem State.beginSession_draws (s : State) : (s.beginSession).draws = s.draws := rfl
@[simp] theorem State.beginSession_pending (s : State) : (s.beginSession).pending = s.pending := rfl
@[simp] theorem State.beginSession_readLog (s : State) : (s.beginSession).readLog = s.readLog := rfl

@[simp] theorem State.accept_config (e : List Byte) (s : State) : (s.accept e).config = s.config := rfl
@[simp] theorem State.accept_mode (e : List Byte) (s : State) : (s.accept e).mode = s.mode := rfl
@[simp] theorem State.accept_paylen (e : List Byte) (s : State) : (s.accept e).paylen = s.paylen + BitVec.ofNat 16 e.length := rfl
@[simp] theorem State.accept_pcount (e : List Byte) (s : State) : (s.accept e).pcount = s.pcount + 1 := rfl
@[simp] theorem State.accept_lasttick (e : List Byte) (s : State) : (s.accept e).lasttick = s.lasttick := rfl
@[simp] theorem State.accept_pktlen (e : List Byte) (s : State) : (s.accept e).pktlen = s.pktlen := rfl
@[simp] theorem State.accept_pktReady (e : List Byte) (s : State) : (s.accept e).pktReady = s.pktReady := rfl
@[simp] theorem State.accept_encFail (e : List Byte) (s : State) : (s.accept e).encFail = s.encFail := rfl
@[simp] theorem State.accept_ovf (e : List Byte) (s : State) : (s.accept e).ovf = s.ovf := rfl
@[simp] theorem State.accept_cmdErr (e : List Byte) (s : State) : (s.accept e).cmdErr = s.cmdErr := rfl
@[simp] theorem State.accept_bufErr (e : List Byte) (s : State) : (s.accept e).bufErr = s.bufErr := rfl
@[simp] theorem State.accept_vDone (e : List Byte) (s : State) : (s.accept e).vDone = s.vDone := rfl
@[simp] theorem State.accept_vlen (e : List Byte) (s : State) : (s.accept e).vlen = s.vlen := rfl
@[simp] theorem State.accept_vres (e : List Byte) (s : State) : (s.accept e).vres = s.vres := rfl
@[simp] theorem State.accept_bufPtr (e : List Byte) (s : State) : (s.accept e).bufPtr = s.bufPtr := rfl
@[simp] theorem State.accept_buf (e : List Byte) (s : State) : (s.accept e).buf = s.buf := rfl
@[simp] theorem State.accept_draws (e : List Byte) (s : State) : (s.accept e).draws = s.draws := rfl
@[simp] theorem State.accept_pending (e : List Byte) (s : State) : (s.accept e).pending = s.pending := rfl
@[simp] theorem State.accept_readLog (e : List Byte) (s : State) : (s.accept e).readLog = s.readLog := rfl

@[simp] theorem State.failSession_config (s : State) : (s.failSession).config = s.config := rfl
@[simp] theorem State.failSession_mode (s : State) : (s.failSession).mode = .idle := rfl
@[simp] theorem State.failSession_paylen (s : State) : (s.failSession).paylen = s.paylen := rfl
@[simp] theorem State.failSession_pcount (s : State) : (s.failSession).pcount = s.pcount := rfl
@[simp] theorem State.failSession_lasttick (s : State) : (s.failSession).lasttick = s.lasttick := rfl
@[simp] theorem State.failSession_pktlen (s : State) : (s.failSession).pktlen = 0 := rfl
@[simp] theorem State.failSession_pktReady (s : State) : (s.failSession).pktReady = false := rfl
@[simp] theorem State.failSession_encFail (s : State) : (s.failSession).encFail = true := rfl
@[simp] theorem State.failSession_ovf (s : State) : (s.failSession).ovf = s.ovf := rfl
@[simp] theorem State.failSession_cmdErr (s : State) : (s.failSession).cmdErr = s.cmdErr := rfl
@[simp] theorem State.failSession_bufErr (s : State) : (s.failSession).bufErr = s.bufErr := rfl
@[simp] theorem State.failSession_vDone (s : State) : (s.failSession).vDone = s.vDone := rfl
@[simp] theorem State.failSession_vlen (s : State) : (s.failSession).vlen = s.vlen := rfl
@[simp] theorem State.failSession_vres (s : State) : (s.failSession).vres = s.vres := rfl
@[simp] theorem State.failSession_bufPtr (s : State) : (s.failSession).bufPtr = s.bufPtr := rfl
@[simp] theorem State.failSession_buf (s : State) : (s.failSession).buf = s.buf := rfl
@[simp] theorem State.failSession_draws (s : State) : (s.failSession).draws = s.draws := rfl
@[simp] theorem State.failSession_pending (s : State) : (s.failSession).pending = s.pending := rfl
@[simp] theorem State.failSession_readLog (s : State) : (s.failSession).readLog = s.readLog := rfl

@[simp] theorem State.finishSession_config (len : Nat) (s : State) : (s.finishSession len).config = s.config := rfl
@[simp] theorem State.finishSession_mode (len : Nat) (s : State) : (s.finishSession len).mode = .idle := rfl
@[simp] theorem State.finishSession_paylen (len : Nat) (s : State) : (s.finishSession len).paylen = s.paylen := rfl
@[simp] theorem State.finishSession_pcount (len : Nat) (s : State) : (s.finishSession len).pcount = s.pcount := rfl
@[simp] theorem State.finishSession_lasttick (len : Nat) (s : State) : (s.finishSession len).lasttick = s.lasttick := rfl
@[simp] theorem State.finishSession_pktlen (len : Nat) (s : State) : (s.finishSession len).pktlen = BitVec.ofNat 17 len := rfl
@[simp] theorem State.finishSession_pktReady (len : Nat) (s : State) : (s.finishSession len).pktReady = true := rfl
@[simp] theorem State.finishSession_encFail (len : Nat) (s : State) : (s.finishSession len).encFail = s.encFail := rfl
@[simp] theorem State.finishSession_ovf (len : Nat) (s : State) : (s.finishSession len).ovf = s.ovf := rfl
@[simp] theorem State.finishSession_cmdErr (len : Nat) (s : State) : (s.finishSession len).cmdErr = s.cmdErr := rfl
@[simp] theorem State.finishSession_bufErr (len : Nat) (s : State) : (s.finishSession len).bufErr = s.bufErr := rfl
@[simp] theorem State.finishSession_vDone (len : Nat) (s : State) : (s.finishSession len).vDone = s.vDone := rfl
@[simp] theorem State.finishSession_vlen (len : Nat) (s : State) : (s.finishSession len).vlen = s.vlen := rfl
@[simp] theorem State.finishSession_vres (len : Nat) (s : State) : (s.finishSession len).vres = s.vres := rfl
@[simp] theorem State.finishSession_bufPtr (len : Nat) (s : State) : (s.finishSession len).bufPtr = s.bufPtr := rfl
@[simp] theorem State.finishSession_buf (len : Nat) (s : State) : (s.finishSession len).buf = s.buf := rfl
@[simp] theorem State.finishSession_draws (len : Nat) (s : State) : (s.finishSession len).draws = s.draws := rfl
@[simp] theorem State.finishSession_pending (len : Nat) (s : State) : (s.finishSession len).pending = s.pending := rfl
@[simp] theorem State.finishSession_readLog (len : Nat) (s : State) : (s.finishSession len).readLog = s.readLog := rfl

@[simp] theorem State.setVerdict_config (r : Verdict) (s : State) : (s.setVerdict r).config = s.config := rfl
@[simp] theorem State.setVerdict_mode (r : Verdict) (s : State) : (s.setVerdict r).mode = s.mode := rfl
@[simp] theorem State.setVerdict_paylen (r : Verdict) (s : State) : (s.setVerdict r).paylen = s.paylen := rfl
@[simp] theorem State.setVerdict_pcount (r : Verdict) (s : State) : (s.setVerdict r).pcount = s.pcount := rfl
@[simp] theorem State.setVerdict_lasttick (r : Verdict) (s : State) : (s.setVerdict r).lasttick = s.lasttick := rfl
@[simp] theorem State.setVerdict_pktlen (r : Verdict) (s : State) : (s.setVerdict r).pktlen = s.pktlen := rfl
@[simp] theorem State.setVerdict_pktReady (r : Verdict) (s : State) : (s.setVerdict r).pktReady = s.pktReady := rfl
@[simp] theorem State.setVerdict_encFail (r : Verdict) (s : State) : (s.setVerdict r).encFail = s.encFail := rfl
@[simp] theorem State.setVerdict_ovf (r : Verdict) (s : State) : (s.setVerdict r).ovf = s.ovf := rfl
@[simp] theorem State.setVerdict_cmdErr (r : Verdict) (s : State) : (s.setVerdict r).cmdErr = s.cmdErr := rfl
@[simp] theorem State.setVerdict_bufErr (r : Verdict) (s : State) : (s.setVerdict r).bufErr = s.bufErr := rfl
@[simp] theorem State.setVerdict_vDone (r : Verdict) (s : State) : (s.setVerdict r).vDone = true := rfl
@[simp] theorem State.setVerdict_vlen (r : Verdict) (s : State) : (s.setVerdict r).vlen = s.vlen := rfl
@[simp] theorem State.setVerdict_vres (r : Verdict) (s : State) : (s.setVerdict r).vres = verdictBits r := rfl
@[simp] theorem State.setVerdict_bufPtr (r : Verdict) (s : State) : (s.setVerdict r).bufPtr = s.bufPtr := rfl
@[simp] theorem State.setVerdict_buf (r : Verdict) (s : State) : (s.setVerdict r).buf = s.buf := rfl
@[simp] theorem State.setVerdict_draws (r : Verdict) (s : State) : (s.setVerdict r).draws = s.draws := rfl
@[simp] theorem State.setVerdict_pending (r : Verdict) (s : State) : (s.setVerdict r).pending = s.pending := rfl
@[simp] theorem State.setVerdict_readLog (r : Verdict) (s : State) : (s.setVerdict r).readLog = s.readLog := rfl

@[simp] theorem State.softReset_config (s : State) : (s.softReset).config = s.config := rfl
@[simp] theorem State.softReset_mode (s : State) : (s.softReset).mode = .idle := rfl
@[simp] theorem State.softReset_paylen (s : State) : (s.softReset).paylen = 0 := rfl
@[simp] theorem State.softReset_pcount (s : State) : (s.softReset).pcount = 0 := rfl
@[simp] theorem State.softReset_lasttick (s : State) : (s.softReset).lasttick = 0 := rfl
@[simp] theorem State.softReset_pktlen (s : State) : (s.softReset).pktlen = 0 := rfl
@[simp] theorem State.softReset_pktReady (s : State) : (s.softReset).pktReady = false := rfl
@[simp] theorem State.softReset_encFail (s : State) : (s.softReset).encFail = false := rfl
@[simp] theorem State.softReset_ovf (s : State) : (s.softReset).ovf = false := rfl
@[simp] theorem State.softReset_cmdErr (s : State) : (s.softReset).cmdErr = false := rfl
@[simp] theorem State.softReset_bufErr (s : State) : (s.softReset).bufErr = false := rfl
@[simp] theorem State.softReset_vDone (s : State) : (s.softReset).vDone = false := rfl
@[simp] theorem State.softReset_vlen (s : State) : (s.softReset).vlen = 0 := rfl
@[simp] theorem State.softReset_vres (s : State) : (s.softReset).vres = 0 := rfl
@[simp] theorem State.softReset_bufPtr (s : State) : (s.softReset).bufPtr = 0 := rfl
@[simp] theorem State.softReset_buf (s : State) : (s.softReset).buf = s.buf := rfl
@[simp] theorem State.softReset_draws (s : State) : (s.softReset).draws = s.draws := rfl
@[simp] theorem State.softReset_pending (s : State) : (s.softReset).pending = s.pending := rfl
@[simp] theorem State.softReset_readLog (s : State) : (s.softReset).readLog = s.readLog := rfl

@[simp] theorem State.hardReset_config (s : State) : (s.hardReset).config = s.config := rfl
@[simp] theorem State.hardReset_mode (s : State) : (s.hardReset).mode = .idle := rfl
@[simp] theorem State.hardReset_paylen (s : State) : (s.hardReset).paylen = 0 := rfl
@[simp] theorem State.hardReset_pcount (s : State) : (s.hardReset).pcount = 0 := rfl
@[simp] theorem State.hardReset_lasttick (s : State) : (s.hardReset).lasttick = 0 := rfl
@[simp] theorem State.hardReset_pktlen (s : State) : (s.hardReset).pktlen = 0 := rfl
@[simp] theorem State.hardReset_pktReady (s : State) : (s.hardReset).pktReady = false := rfl
@[simp] theorem State.hardReset_encFail (s : State) : (s.hardReset).encFail = false := rfl
@[simp] theorem State.hardReset_ovf (s : State) : (s.hardReset).ovf = false := rfl
@[simp] theorem State.hardReset_cmdErr (s : State) : (s.hardReset).cmdErr = false := rfl
@[simp] theorem State.hardReset_bufErr (s : State) : (s.hardReset).bufErr = false := rfl
@[simp] theorem State.hardReset_vDone (s : State) : (s.hardReset).vDone = false := rfl
@[simp] theorem State.hardReset_vlen (s : State) : (s.hardReset).vlen = 0 := rfl
@[simp] theorem State.hardReset_vres (s : State) : (s.hardReset).vres = 0 := rfl
@[simp] theorem State.hardReset_bufPtr (s : State) : (s.hardReset).bufPtr = 0 := rfl
@[simp] theorem State.hardReset_buf (s : State) : (s.hardReset).buf = [] := rfl
@[simp] theorem State.hardReset_draws (s : State) : (s.hardReset).draws = s.draws := rfl
@[simp] theorem State.hardReset_pending (s : State) : (s.hardReset).pending = s.pending := rfl
@[simp] theorem State.hardReset_readLog (s : State) : (s.hardReset).readLog = s.readLog := rfl

@[simp] theorem State.setLasttick_config (t : Tick) (s : State) : (s.setLasttick t).config = s.config := rfl
@[simp] theorem State.setLasttick_mode (t : Tick) (s : State) : (s.setLasttick t).mode = s.mode := rfl
@[simp] theorem State.setLasttick_paylen (t : Tick) (s : State) : (s.setLasttick t).paylen = s.paylen := rfl
@[simp] theorem State.setLasttick_pcount (t : Tick) (s : State) : (s.setLasttick t).pcount = s.pcount := rfl
@[simp] theorem State.setLasttick_lasttick (t : Tick) (s : State) : (s.setLasttick t).lasttick = t := rfl
@[simp] theorem State.setLasttick_pktlen (t : Tick) (s : State) : (s.setLasttick t).pktlen = s.pktlen := rfl
@[simp] theorem State.setLasttick_pktReady (t : Tick) (s : State) : (s.setLasttick t).pktReady = s.pktReady := rfl
@[simp] theorem State.setLasttick_encFail (t : Tick) (s : State) : (s.setLasttick t).encFail = s.encFail := rfl
@[simp] theorem State.setLasttick_ovf (t : Tick) (s : State) : (s.setLasttick t).ovf = s.ovf := rfl
@[simp] theorem State.setLasttick_cmdErr (t : Tick) (s : State) : (s.setLasttick t).cmdErr = s.cmdErr := rfl
@[simp] theorem State.setLasttick_bufErr (t : Tick) (s : State) : (s.setLasttick t).bufErr = s.bufErr := rfl
@[simp] theorem State.setLasttick_vDone (t : Tick) (s : State) : (s.setLasttick t).vDone = s.vDone := rfl
@[simp] theorem State.setLasttick_vlen (t : Tick) (s : State) : (s.setLasttick t).vlen = s.vlen := rfl
@[simp] theorem State.setLasttick_vres (t : Tick) (s : State) : (s.setLasttick t).vres = s.vres := rfl
@[simp] theorem State.setLasttick_bufPtr (t : Tick) (s : State) : (s.setLasttick t).bufPtr = s.bufPtr := rfl
@[simp] theorem State.setLasttick_buf (t : Tick) (s : State) : (s.setLasttick t).buf = s.buf := rfl
@[simp] theorem State.setLasttick_draws (t : Tick) (s : State) : (s.setLasttick t).draws = s.draws := rfl
@[simp] theorem State.setLasttick_pending (t : Tick) (s : State) : (s.setLasttick t).pending = s.pending := rfl
@[simp] theorem State.setLasttick_readLog (t : Tick) (s : State) : (s.setLasttick t).readLog = s.readLog := rfl

@[simp] theorem State.setOvf_config (s : State) : (s.setOvf).config = s.config := rfl
@[simp] theorem State.setOvf_mode (s : State) : (s.setOvf).mode = s.mode := rfl
@[simp] theorem State.setOvf_paylen (s : State) : (s.setOvf).paylen = s.paylen := rfl
@[simp] theorem State.setOvf_pcount (s : State) : (s.setOvf).pcount = s.pcount := rfl
@[simp] theorem State.setOvf_lasttick (s : State) : (s.setOvf).lasttick = s.lasttick := rfl
@[simp] theorem State.setOvf_pktlen (s : State) : (s.setOvf).pktlen = s.pktlen := rfl
@[simp] theorem State.setOvf_pktReady (s : State) : (s.setOvf).pktReady = s.pktReady := rfl
@[simp] theorem State.setOvf_encFail (s : State) : (s.setOvf).encFail = s.encFail := rfl
@[simp] theorem State.setOvf_ovf (s : State) : (s.setOvf).ovf = true := rfl
@[simp] theorem State.setOvf_cmdErr (s : State) : (s.setOvf).cmdErr = s.cmdErr := rfl
@[simp] theorem State.setOvf_bufErr (s : State) : (s.setOvf).bufErr = s.bufErr := rfl
@[simp] theorem State.setOvf_vDone (s : State) : (s.setOvf).vDone = s.vDone := rfl
@[simp] theorem State.setOvf_vlen (s : State) : (s.setOvf).vlen = s.vlen := rfl
@[simp] theorem State.setOvf_vres (s : State) : (s.setOvf).vres = s.vres := rfl
@[simp] theorem State.setOvf_bufPtr (s : State) : (s.setOvf).bufPtr = s.bufPtr := rfl
@[simp] theorem State.setOvf_buf (s : State) : (s.setOvf).buf = s.buf := rfl
@[simp] theorem State.setOvf_draws (s : State) : (s.setOvf).draws = s.draws := rfl
@[simp] theorem State.setOvf_pending (s : State) : (s.setOvf).pending = s.pending := rfl
@[simp] theorem State.setOvf_readLog (s : State) : (s.setOvf).readLog = s.readLog := rfl

@[simp] theorem State.abortSession_config (s : State) : (s.abortSession).config = s.config := rfl
@[simp] theorem State.abortSession_mode (s : State) : (s.abortSession).mode = .idle := rfl
@[simp] theorem State.abortSession_paylen (s : State) : (s.abortSession).paylen = s.paylen := rfl
@[simp] theorem State.abortSession_pcount (s : State) : (s.abortSession).pcount = s.pcount := rfl
@[simp] theorem State.abortSession_lasttick (s : State) : (s.abortSession).lasttick = s.lasttick := rfl
@[simp] theorem State.abortSession_pktlen (s : State) : (s.abortSession).pktlen = 0 := rfl
@[simp] theorem State.abortSession_pktReady (s : State) : (s.abortSession).pktReady = false := rfl
@[simp] theorem State.abortSession_encFail (s : State) : (s.abortSession).encFail = s.encFail := rfl
@[simp] theorem State.abortSession_ovf (s : State) : (s.abortSession).ovf = s.ovf := rfl
@[simp] theorem State.abortSession_cmdErr (s : State) : (s.abortSession).cmdErr = s.cmdErr := rfl
@[simp] theorem State.abortSession_bufErr (s : State) : (s.abortSession).bufErr = s.bufErr := rfl
@[simp] theorem State.abortSession_vDone (s : State) : (s.abortSession).vDone = s.vDone := rfl
@[simp] theorem State.abortSession_vlen (s : State) : (s.abortSession).vlen = s.vlen := rfl
@[simp] theorem State.abortSession_vres (s : State) : (s.abortSession).vres = s.vres := rfl
@[simp] theorem State.abortSession_bufPtr (s : State) : (s.abortSession).bufPtr = s.bufPtr := rfl
@[simp] theorem State.abortSession_buf (s : State) : (s.abortSession).buf = s.buf := rfl
@[simp] theorem State.abortSession_draws (s : State) : (s.abortSession).draws = s.draws := rfl
@[simp] theorem State.abortSession_pending (s : State) : (s.abortSession).pending = s.pending := rfl
@[simp] theorem State.abortSession_readLog (s : State) : (s.abortSession).readLog = s.readLog := rfl

@[simp] theorem State.clearErrors_config (v : Word) (s : State) : (s.clearErrors v).config = s.config := rfl
@[simp] theorem State.clearErrors_mode (v : Word) (s : State) : (s.clearErrors v).mode = s.mode := rfl
@[simp] theorem State.clearErrors_paylen (v : Word) (s : State) : (s.clearErrors v).paylen = s.paylen := rfl
@[simp] theorem State.clearErrors_pcount (v : Word) (s : State) : (s.clearErrors v).pcount = s.pcount := rfl
@[simp] theorem State.clearErrors_lasttick (v : Word) (s : State) : (s.clearErrors v).lasttick = s.lasttick := rfl
@[simp] theorem State.clearErrors_pktlen (v : Word) (s : State) : (s.clearErrors v).pktlen = s.pktlen := rfl
@[simp] theorem State.clearErrors_pktReady (v : Word) (s : State) : (s.clearErrors v).pktReady = s.pktReady := rfl
@[simp] theorem State.clearErrors_encFail (v : Word) (s : State) : (s.clearErrors v).encFail = s.encFail := rfl
@[simp] theorem State.clearErrors_ovf (v : Word) (s : State) : (s.clearErrors v).ovf = s.ovf := rfl
@[simp] theorem State.clearErrors_cmdErr (v : Word) (s : State) : (s.clearErrors v).cmdErr = (s.cmdErr && !clearsCmdErr v) := rfl
@[simp] theorem State.clearErrors_bufErr (v : Word) (s : State) : (s.clearErrors v).bufErr = (s.bufErr && !clearsBufErr v) := rfl
@[simp] theorem State.clearErrors_vDone (v : Word) (s : State) : (s.clearErrors v).vDone = s.vDone := rfl
@[simp] theorem State.clearErrors_vlen (v : Word) (s : State) : (s.clearErrors v).vlen = s.vlen := rfl
@[simp] theorem State.clearErrors_vres (v : Word) (s : State) : (s.clearErrors v).vres = s.vres := rfl
@[simp] theorem State.clearErrors_bufPtr (v : Word) (s : State) : (s.clearErrors v).bufPtr = s.bufPtr := rfl
@[simp] theorem State.clearErrors_buf (v : Word) (s : State) : (s.clearErrors v).buf = s.buf := rfl
@[simp] theorem State.clearErrors_draws (v : Word) (s : State) : (s.clearErrors v).draws = s.draws := rfl
@[simp] theorem State.clearErrors_pending (v : Word) (s : State) : (s.clearErrors v).pending = s.pending := rfl
@[simp] theorem State.clearErrors_readLog (v : Word) (s : State) : (s.clearErrors v).readLog = s.readLog := rfl

@[simp] theorem State.setVlen_config (v : Word) (s : State) : (s.setVlen v).config = s.config := rfl
@[simp] theorem State.setVlen_mode (v : Word) (s : State) : (s.setVlen v).mode = s.mode := rfl
@[simp] theorem State.setVlen_paylen (v : Word) (s : State) : (s.setVlen v).paylen = s.paylen := rfl
@[simp] theorem State.setVlen_pcount (v : Word) (s : State) : (s.setVlen v).pcount = s.pcount := rfl
@[simp] theorem State.setVlen_lasttick (v : Word) (s : State) : (s.setVlen v).lasttick = s.lasttick := rfl
@[simp] theorem State.setVlen_pktlen (v : Word) (s : State) : (s.setVlen v).pktlen = s.pktlen := rfl
@[simp] theorem State.setVlen_pktReady (v : Word) (s : State) : (s.setVlen v).pktReady = s.pktReady := rfl
@[simp] theorem State.setVlen_encFail (v : Word) (s : State) : (s.setVlen v).encFail = s.encFail := rfl
@[simp] theorem State.setVlen_ovf (v : Word) (s : State) : (s.setVlen v).ovf = s.ovf := rfl
@[simp] theorem State.setVlen_cmdErr (v : Word) (s : State) : (s.setVlen v).cmdErr = s.cmdErr := rfl
@[simp] theorem State.setVlen_bufErr (v : Word) (s : State) : (s.setVlen v).bufErr = s.bufErr := rfl
@[simp] theorem State.setVlen_vDone (v : Word) (s : State) : (s.setVlen v).vDone = s.vDone := rfl
@[simp] theorem State.setVlen_vlen (v : Word) (s : State) : (s.setVlen v).vlen = v := rfl
@[simp] theorem State.setVlen_vres (v : Word) (s : State) : (s.setVlen v).vres = s.vres := rfl
@[simp] theorem State.setVlen_bufPtr (v : Word) (s : State) : (s.setVlen v).bufPtr = s.bufPtr := rfl
@[simp] theorem State.setVlen_buf (v : Word) (s : State) : (s.setVlen v).buf = s.buf := rfl
@[simp] theorem State.setVlen_draws (v : Word) (s : State) : (s.setVlen v).draws = s.draws := rfl
@[simp] theorem State.setVlen_pending (v : Word) (s : State) : (s.setVlen v).pending = s.pending := rfl
@[simp] theorem State.setVlen_readLog (v : Word) (s : State) : (s.setVlen v).readLog = s.readLog := rfl

@[simp] theorem State.setBufPtr_config (v : Word) (s : State) : (s.setBufPtr v).config = s.config := rfl
@[simp] theorem State.setBufPtr_mode (v : Word) (s : State) : (s.setBufPtr v).mode = s.mode := rfl
@[simp] theorem State.setBufPtr_paylen (v : Word) (s : State) : (s.setBufPtr v).paylen = s.paylen := rfl
@[simp] theorem State.setBufPtr_pcount (v : Word) (s : State) : (s.setBufPtr v).pcount = s.pcount := rfl
@[simp] theorem State.setBufPtr_lasttick (v : Word) (s : State) : (s.setBufPtr v).lasttick = s.lasttick := rfl
@[simp] theorem State.setBufPtr_pktlen (v : Word) (s : State) : (s.setBufPtr v).pktlen = s.pktlen := rfl
@[simp] theorem State.setBufPtr_pktReady (v : Word) (s : State) : (s.setBufPtr v).pktReady = s.pktReady := rfl
@[simp] theorem State.setBufPtr_encFail (v : Word) (s : State) : (s.setBufPtr v).encFail = s.encFail := rfl
@[simp] theorem State.setBufPtr_ovf (v : Word) (s : State) : (s.setBufPtr v).ovf = s.ovf := rfl
@[simp] theorem State.setBufPtr_cmdErr (v : Word) (s : State) : (s.setBufPtr v).cmdErr = s.cmdErr := rfl
@[simp] theorem State.setBufPtr_bufErr (v : Word) (s : State) : (s.setBufPtr v).bufErr = s.bufErr := rfl
@[simp] theorem State.setBufPtr_vDone (v : Word) (s : State) : (s.setBufPtr v).vDone = s.vDone := rfl
@[simp] theorem State.setBufPtr_vlen (v : Word) (s : State) : (s.setBufPtr v).vlen = s.vlen := rfl
@[simp] theorem State.setBufPtr_vres (v : Word) (s : State) : (s.setBufPtr v).vres = s.vres := rfl
@[simp] theorem State.setBufPtr_bufPtr (v : Word) (s : State) : (s.setBufPtr v).bufPtr = v := rfl
@[simp] theorem State.setBufPtr_buf (v : Word) (s : State) : (s.setBufPtr v).buf = s.buf := rfl
@[simp] theorem State.setBufPtr_draws (v : Word) (s : State) : (s.setBufPtr v).draws = s.draws := rfl
@[simp] theorem State.setBufPtr_pending (v : Word) (s : State) : (s.setBufPtr v).pending = s.pending := rfl
@[simp] theorem State.setBufPtr_readLog (v : Word) (s : State) : (s.setBufPtr v).readLog = s.readLog := rfl

/-! `afterRead` changes nothing but the count of draws. -/

@[simp] theorem State.afterRead_config (a : Nat) (s : State) : (s.afterRead a).config = s.config := by
  unfold State.afterRead; split <;> rfl
@[simp] theorem State.afterRead_mode (a : Nat) (s : State) : (s.afterRead a).mode = s.mode := by
  unfold State.afterRead; split <;> rfl
@[simp] theorem State.afterRead_paylen (a : Nat) (s : State) : (s.afterRead a).paylen = s.paylen := by
  unfold State.afterRead; split <;> rfl
@[simp] theorem State.afterRead_pcount (a : Nat) (s : State) : (s.afterRead a).pcount = s.pcount := by
  unfold State.afterRead; split <;> rfl
@[simp] theorem State.afterRead_lasttick (a : Nat) (s : State) : (s.afterRead a).lasttick = s.lasttick := by
  unfold State.afterRead; split <;> rfl
@[simp] theorem State.afterRead_pktlen (a : Nat) (s : State) : (s.afterRead a).pktlen = s.pktlen := by
  unfold State.afterRead; split <;> rfl
@[simp] theorem State.afterRead_pktReady (a : Nat) (s : State) : (s.afterRead a).pktReady = s.pktReady := by
  unfold State.afterRead; split <;> rfl
@[simp] theorem State.afterRead_encFail (a : Nat) (s : State) : (s.afterRead a).encFail = s.encFail := by
  unfold State.afterRead; split <;> rfl
@[simp] theorem State.afterRead_ovf (a : Nat) (s : State) : (s.afterRead a).ovf = s.ovf := by
  unfold State.afterRead; split <;> rfl
@[simp] theorem State.afterRead_cmdErr (a : Nat) (s : State) : (s.afterRead a).cmdErr = s.cmdErr := by
  unfold State.afterRead; split <;> rfl
@[simp] theorem State.afterRead_bufErr (a : Nat) (s : State) : (s.afterRead a).bufErr = s.bufErr := by
  unfold State.afterRead; split <;> rfl
@[simp] theorem State.afterRead_vDone (a : Nat) (s : State) : (s.afterRead a).vDone = s.vDone := by
  unfold State.afterRead; split <;> rfl
@[simp] theorem State.afterRead_vlen (a : Nat) (s : State) : (s.afterRead a).vlen = s.vlen := by
  unfold State.afterRead; split <;> rfl
@[simp] theorem State.afterRead_vres (a : Nat) (s : State) : (s.afterRead a).vres = s.vres := by
  unfold State.afterRead; split <;> rfl
@[simp] theorem State.afterRead_bufPtr (a : Nat) (s : State) : (s.afterRead a).bufPtr = s.bufPtr := by
  unfold State.afterRead; split <;> rfl
@[simp] theorem State.afterRead_buf (a : Nat) (s : State) : (s.afterRead a).buf = s.buf := by
  unfold State.afterRead; split <;> rfl
@[simp] theorem State.afterRead_pending (a : Nat) (s : State) : (s.afterRead a).pending = s.pending := by
  unfold State.afterRead; split <;> rfl
@[simp] theorem State.afterRead_readLog (a : Nat) (s : State) : (s.afterRead a).readLog = s.readLog := by
  unfold State.afterRead; split <;> rfl

/-- Reading a written byte consumes no draw. -/
theorem State.afterRead_of_some {a : Nat} {s : State} {b : Byte} (h : s.buf.read a = some b) :
    s.afterRead a = s := by simp [State.afterRead, h]

/-- Reading an unwritten byte consumes one draw. -/
theorem State.afterRead_of_none {a : Nat} {s : State} (h : s.buf.read a = none) :
    s.afterRead a = s.drawn := by simp [State.afterRead, h]

/-- A written byte reads as its value. -/
theorem State.byteAt_of_some {a : Nat} {s : State} {b : Byte} (h : s.buf.read a = some b) :
    s.byteAt a = b := by simp [State.byteAt, h]

/-- An unwritten byte reads as the next draw. -/
theorem State.byteAt_of_none {a : Nat} {s : State} (h : s.buf.read a = none) :
    s.byteAt a = Config.draw s.draws := by simp [State.byteAt, h]

end Sys2Proof.Machine
end

