-- ==== Sys2Proof/Laws/Ops.lean ====
section
/-! SUPPORT. What each shared operation answers, once: in-range internal accesses, the two windows, the
encoder's appending and closing, and the check of BUF. Cite these instead of unfolding. -/

namespace Sys2Proof.Machine

theorem loadThen_of_lt {a : Nat} (h : a < 65552) (s : State) (k : Byte → State → Result) :
    loadThen a s k = k (s.byteAt a) (s.afterRead a) := by simp [loadThen, h]

theorem storeThen_of_le {a : Nat} {bs : List Byte} (h : a + bs.length ≤ 65552) (s : State)
    (k : State → Result) : storeThen a bs s k = k (s.setBuf (s.buf.writeBytes a bs)) := by
  simp [storeThen, h]

/-- RD_BUF_DATA in range (R232). -/
theorem execRdBufData_of_lt {s : State} (h : s.bufPtr.toNat < 65552) :
    execRdBufData s = .next (((s.afterRead s.bufPtr.toNat).advancePtr).answer
      (zext32 (s.byteAt s.bufPtr.toNat))) := by
  simp [execRdBufData, h, loadThen_of_lt h]

/-- RD_BUF_DATA out of range (R232). -/
theorem execRdBufData_of_ge {s : State} (h : 65552 ≤ s.bufPtr.toNat) :
    execRdBufData s = .next (s.setBufErr.answer 0) := by
  simp [execRdBufData, Nat.not_lt.mpr h, raiseBufErrRead]

/-- WR_BUF_DATA in mode IDLE and in range (R233). -/
theorem execWrBufData_of_lt {v : Word} {s : State} (hm : s.mode = .idle) (h : s.bufPtr.toNat < 65552) :
    execWrBufData v s = .next ((s.setBuf (s.buf.write s.bufPtr.toNat (bufDataOperand v))).advancePtr) := by
  simp [execWrBufData, hm, h, storeThen_of_le (show s.bufPtr.toNat + [bufDataOperand v].length ≤ 65552 from h),
    Memory.writeBytes]

/-- WR_BUF_DATA in mode IDLE and out of range (R233). -/
theorem execWrBufData_of_ge {v : Word} {s : State} (hm : s.mode = .idle) (h : 65552 ≤ s.bufPtr.toNat) :
    execWrBufData v s = .next s.setBufErr := by
  simp [execWrBufData, hm, Nat.not_lt.mpr h, raiseBufErr]

/-- WR_BUF_DATA in a session (R233, R266). -/
theorem execWrBufData_encoding {v : Word} {s : State} (hm : s.mode = .encoding) :
    execWrBufData v s = .next s.setCmdErr := by simp [execWrBufData, hm, raiseCmdErr]

/-- ENC_BEGIN in mode IDLE (R143). -/
theorem execEncBegin_idle {s : State} (hm : s.mode = .idle) :
    execEncBegin s = .next (s.beginSession.setBuf (s.buf.writeBytes 0 [0#8, 0#8, 0#8, 0#8])) := by
  simp only [execEncBegin, hm]
  exact storeThen_of_le (by decide) _ _

/-- ENC_BEGIN in a session (R143). -/
theorem execEncBegin_encoding {s : State} (hm : s.mode = .encoding) :
    execEncBegin s = .next s.setCmdErr := by simp [execEncBegin, hm, raiseCmdErr]

/-- The header of a session just begun is cleared, and nothing else is written (R143). -/
theorem read_clearedHeader (m : Memory) (a : Nat) :
    (m.writeBytes 0 [0#8, 0#8, 0#8, 0#8]).read a = if a < 4 then some 0#8 else m.read a := by
  split
  · rename_i h
    have := Memory.read_writeBytes_inside m 0 [0#8, 0#8, 0#8, 0#8] (k := a) h
    rw [Nat.zero_add] at this
    rw [this]
    have : a = 0 ∨ a = 1 ∨ a = 2 ∨ a = 3 := by omega
    rcases this with rfl | rfl | rfl | rfl <;> rfl
  · rename_i h
    exact Memory.read_writeBytes_outside _ _ _ (Or.inr (by simpa using h))

/-- An element that fits is appended after the payload and counted (R144). -/
theorem appendElement_fits {e : List Byte} {s : State} (h : s.paylen.toNat + e.length ≤ 65535) :
    appendElement e s =
      .next ((s.setBuf (s.buf.writeBytes (4 + s.paylen.toNat) e)).accept e) := by
  simp only [appendElement, gt_iff_lt, Nat.not_lt.mpr h, if_false]
  exact storeThen_of_le (by rw [Config.hdrLen_eq]; omega) _ _

/-- An element that does not fit sets OVF and writes nothing (R144). -/
theorem appendElement_overflow {e : List Byte} {s : State} (h : 65535 < s.paylen.toNat + e.length) :
    appendElement e s = .next s.setOvf := by simp [appendElement, h]

/-- The payload length after an accepted element: it does not wrap (R34). -/
theorem accept_paylen_toNat {e : List Byte} {s : State} (h : s.paylen.toNat + e.length ≤ 65535) :
    (s.accept e).paylen.toNat = s.paylen.toNat + e.length := by
  simp only [State.accept_paylen, BitVec.toNat_add, BitVec.toNat_ofNat]; omega

/-- WR_PULSE outside a session (R144). -/
theorem execWrPulse_idle {d : Word} {s : State} (hm : s.mode = .idle) :
    execWrPulse d s = .next s.setCmdErr := by simp [execWrPulse, hm, raiseCmdErr]

/-- WR_PULSE in a session that has overflowed: dropped, but LASTTICK follows it (R144). -/
theorem execWrPulse_dropped {d : Word} {s : State} (hm : s.mode = .encoding) (ho : s.ovf = true) :
    execWrPulse d s = .next (s.setLasttick (scale s.config d)) := by
  simp [execWrPulse, pushPulse, pulseOperand, hm, ho]

/-- WR_PULSE in a session that has not overflowed (R144). -/
theorem execWrPulse_live {d : Word} {s : State} (hm : s.mode = .encoding) (ho : s.ovf = false) :
    execWrPulse d s =
      appendElement (pack (scale s.config d)) (s.setLasttick (scale s.config d)) := by
  simp [execWrPulse, pushPulse, pulseOperand, hm, ho]

/-- The closing of a session that did not overflow always succeeds (R71, R145). -/
theorem writePacket_eq (s : State) :
    writePacket s = .next ((s.setBuf ((s.buf.writeBytes 0 (header s.paylen)).writeBytes
      (4 + s.paylen.toNat) (padding (4 + s.paylen.toNat)))).finishSession (ceil16 (4 + s.paylen.toNat))) := by
  have h1 := ceil16_header_le s.paylen
  have h2 := le_ceil16 (4 + s.paylen.toNat)
  unfold writePacket
  simp only [Config.hdrLen_eq]
  rw [storeThen_of_le (by simp), storeThen_of_le (by simp only [padding_length]; omega)]
  rfl

/-- ENC_END outside a session (R145). -/
theorem execEncEnd_idle {s : State} (hm : s.mode = .idle) : execEncEnd s = .next s.setCmdErr := by
  simp [execEncEnd, hm, raiseCmdErr]

/-- ENC_END of a session that overflowed (R145). -/
theorem execEncEnd_failed {s : State} (hm : s.mode = .encoding) (ho : s.ovf = true) :
    execEncEnd s = .next s.failSession := by simp [execEncEnd, hm, ho]

/-- ENC_END of a session that did not overflow (R145). -/
theorem execEncEnd_live {s : State} (hm : s.mode = .encoding) (ho : s.ovf = false) :
    execEncEnd s = .next ((s.setBuf ((s.buf.writeBytes 0 (header s.paylen)).writeBytes
      (4 + s.paylen.toNat) (padding (4 + s.paylen.toNat)))).finishSession (ceil16 (4 + s.paylen.toNat))) := by
  simp [execEncEnd, hm, ho, writePacket_eq]

/-- ENC_ABORT outside a session (R146). -/
theorem execEncAbort_idle {s : State} (hm : s.mode = .idle) : execEncAbort s = .next s.setCmdErr := by
  simp [execEncAbort, hm, raiseCmdErr]

/-- ENC_ABORT of a session (R146). -/
theorem execEncAbort_encoding {s : State} (hm : s.mode = .encoding) :
    execEncAbort s = .next s.abortSession := by
  simp only [execEncAbort, hm]

/-- VALIDATE in a session (R191). -/
theorem execValidate_encoding {s : State} (hm : s.mode = .encoding) :
    execValidate s = .next s.setCmdErr := by simp [execValidate, hm, raiseCmdErr]

/-- The state after VALIDATE has read BUF[0], BUF[2] and BUF[3] in this order (R191). -/
def State.afterHeaderRead (s : State) : State := ((s.afterRead 0).afterRead 2).afterRead 3

/-- VALIDATE of a sequence shorter than a header reads no byte of BUF (R191). -/
theorem execValidate_short {s : State} (hm : s.mode = .idle) (h : s.vlen.toNat < 4) :
    execValidate s = .next (s.setVerdict (checkPacket s.vlen.toNat 0 0 0)) := by
  simp [execValidate, hm, h]

/-- VALIDATE of a sequence with a header (R191): what it reads and what it leaves. -/
theorem execValidate_header {s : State} (hm : s.mode = .idle) (h : 4 ≤ s.vlen.toNat) :
    execValidate s = .next (s.afterHeaderRead.setVerdict (checkPacket s.vlen.toNat (s.byteAt 0)
      ((s.afterRead 0).byteAt 2) (((s.afterRead 0).afterRead 2).byteAt 3))) := by
  simp [execValidate, hm, Nat.not_lt.mpr h, loadThen, State.afterHeaderRead]

/-- VALIDATE of a written header (R191): no draw is consumed. -/
theorem execValidate_written {s : State} {b0 b2 b3 : Byte} (hm : s.mode = .idle)
    (h0 : s.buf.read 0 = some b0) (h2 : s.buf.read 2 = some b2) (h3 : s.buf.read 3 = some b3) :
    execValidate s = .next (s.setVerdict (checkPacket s.vlen.toNat b0 b2 b3)) := by
  by_cases h : s.vlen.toNat < 4
  · rw [execValidate_short hm h]; simp [checkPacket, h]
  · rw [execValidate_header hm (by omega)]
    simp [State.afterHeaderRead, State.afterRead_of_some h0, State.afterRead_of_some h2,
      State.afterRead_of_some h3, State.byteAt_of_some h0, State.byteAt_of_some h2,
      State.byteAt_of_some h3]

end Sys2Proof.Machine
end

