-- ==== Sys2Proof/Laws/Cases.lean ====
section
/-! SUPPORT. For each transaction with more than one outcome, everything it can do: if it answers next t,
then one of these cases holds. Every invariant and every rule over all transactions follows from these
and from the one-line meanings. -/

namespace Sys2Proof.Machine

/-- Two next states that are one outcome are one state. -/
theorem next_inj {s t : State} (h : (Host.Outcome.next s : Result) = .next t) : t = s := by
  cases h; rfl

theorem execRdBufData_cases {s t : State} (h : execRdBufData s = .next t) :
    (s.bufPtr.toNat < 65552 ∧ t = ((s.afterRead s.bufPtr.toNat).advancePtr).answer
      (zext32 (s.byteAt s.bufPtr.toNat))) ∨
    (65552 ≤ s.bufPtr.toNat ∧ t = s.setBufErr.answer 0) := by
  by_cases hp : s.bufPtr.toNat < 65552
  · exact .inl ⟨hp, next_inj ((execRdBufData_of_lt hp).symm.trans h)⟩
  · exact .inr ⟨by omega, next_inj ((execRdBufData_of_ge (by omega)).symm.trans h)⟩

theorem execWrBufData_cases {v : Word} {s t : State} (h : execWrBufData v s = .next t) :
    (s.mode = .encoding ∧ t = s.setCmdErr) ∨
    (s.mode = .idle ∧ s.bufPtr.toNat < 65552 ∧
      t = (s.setBuf (s.buf.write s.bufPtr.toNat (bufDataOperand v))).advancePtr) ∨
    (s.mode = .idle ∧ 65552 ≤ s.bufPtr.toNat ∧ t = s.setBufErr) := by
  cases hm : s.mode with
  | encoding => exact .inl ⟨rfl, next_inj ((execWrBufData_encoding hm).symm.trans h)⟩
  | idle =>
    by_cases hp : s.bufPtr.toNat < 65552
    · exact .inr (.inl ⟨rfl, hp, next_inj ((execWrBufData_of_lt hm hp).symm.trans h)⟩)
    · exact .inr (.inr ⟨rfl, by omega, next_inj ((execWrBufData_of_ge hm (by omega)).symm.trans h)⟩)

theorem execEncBegin_cases {s t : State} (h : execEncBegin s = .next t) :
    (s.mode = .encoding ∧ t = s.setCmdErr) ∨
    (s.mode = .idle ∧ t = s.beginSession.setBuf (s.buf.writeBytes 0 [0#8, 0#8, 0#8, 0#8])) := by
  cases hm : s.mode with
  | encoding => exact .inl ⟨rfl, next_inj ((execEncBegin_encoding hm).symm.trans h)⟩
  | idle => exact .inr ⟨rfl, next_inj ((execEncBegin_idle hm).symm.trans h)⟩

theorem execWrPulse_cases {d : Word} {s t : State} (h : execWrPulse d s = .next t) :
    (s.mode = .idle ∧ t = s.setCmdErr) ∨
    (s.mode = .encoding ∧ s.ovf = true ∧ t = s.setLasttick (scale s.config d)) ∨
    (s.mode = .encoding ∧ s.ovf = false ∧
      65535 < s.paylen.toNat + (pack (scale s.config d)).length ∧
      t = (s.setLasttick (scale s.config d)).setOvf) ∨
    (s.mode = .encoding ∧ s.ovf = false ∧
      s.paylen.toNat + (pack (scale s.config d)).length ≤ 65535 ∧
      t = ((s.setLasttick (scale s.config d)).setBuf (s.buf.writeBytes (4 + s.paylen.toNat)
        (pack (scale s.config d)))).accept (pack (scale s.config d))) := by
  cases hm : s.mode with
  | idle => exact .inl ⟨rfl, next_inj ((execWrPulse_idle hm).symm.trans h)⟩
  | encoding =>
    cases ho : s.ovf with
    | true => exact .inr (.inl ⟨rfl, rfl, next_inj ((execWrPulse_dropped hm ho).symm.trans h)⟩)
    | false =>
      rw [execWrPulse_live hm ho] at h
      by_cases hf : s.paylen.toNat + (pack (scale s.config d)).length ≤ 65535
      · exact .inr (.inr (.inr ⟨rfl, rfl, hf, next_inj ((appendElement_fits (s := s.setLasttick (scale s.config d)) hf).symm.trans h)⟩))
      · have hf : 65535 < s.paylen.toNat + (pack (scale s.config d)).length := by omega
        exact .inr (.inr (.inl ⟨rfl, rfl, hf, next_inj ((appendElement_overflow (s := s.setLasttick (scale s.config d)) hf).symm.trans h)⟩))

theorem execEncEnd_cases {s t : State} (h : execEncEnd s = .next t) :
    (s.mode = .idle ∧ t = s.setCmdErr) ∨
    (s.mode = .encoding ∧ s.ovf = true ∧ t = s.failSession) ∨
    (s.mode = .encoding ∧ s.ovf = false ∧
      t = (s.setBuf ((s.buf.writeBytes 0 (header s.paylen)).writeBytes (4 + s.paylen.toNat)
        (padding (4 + s.paylen.toNat)))).finishSession (ceil16 (4 + s.paylen.toNat))) := by
  cases hm : s.mode with
  | idle => exact .inl ⟨rfl, next_inj ((execEncEnd_idle hm).symm.trans h)⟩
  | encoding =>
    cases ho : s.ovf with
    | true => exact .inr (.inl ⟨rfl, rfl, next_inj ((execEncEnd_failed hm ho).symm.trans h)⟩)
    | false => exact .inr (.inr ⟨rfl, rfl, next_inj ((execEncEnd_live hm ho).symm.trans h)⟩)

theorem execEncAbort_cases {s t : State} (h : execEncAbort s = .next t) :
    (s.mode = .idle ∧ t = s.setCmdErr) ∨
    (s.mode = .encoding ∧ t = s.abortSession) := by
  cases hm : s.mode with
  | idle => exact .inl ⟨rfl, next_inj ((execEncAbort_idle hm).symm.trans h)⟩
  | encoding => exact .inr ⟨rfl, next_inj ((execEncAbort_encoding hm).symm.trans h)⟩

theorem execValidate_cases {s t : State} (h : execValidate s = .next t) :
    (s.mode = .encoding ∧ t = s.setCmdErr) ∨
    (s.mode = .idle ∧ s.vlen.toNat < 4 ∧ t = s.setVerdict (checkPacket s.vlen.toNat 0 0 0)) ∨
    (s.mode = .idle ∧ 4 ≤ s.vlen.toNat ∧
      t = s.afterHeaderRead.setVerdict (checkPacket s.vlen.toNat (s.byteAt 0)
        ((s.afterRead 0).byteAt 2) (((s.afterRead 0).afterRead 2).byteAt 3))) := by
  cases hm : s.mode with
  | encoding => exact .inl ⟨rfl, next_inj ((execValidate_encoding hm).symm.trans h)⟩
  | idle =>
    by_cases hn : s.vlen.toNat < 4
    · exact .inr (.inl ⟨rfl, hn, next_inj ((execValidate_short hm hn).symm.trans h)⟩)
    · exact .inr (.inr ⟨rfl, by omega, next_inj ((execValidate_header hm (by omega)).symm.trans h)⟩)

end Sys2Proof.Machine
end

