-- ==== Sys2Proof/Laws/Decode.lean ====
section
/-! SUPPORT. The fields of an HT word read back as they were put together. -/

namespace Sys2Proof

@[simp] theorem htWrite_htWord (b : Bool) (k : BitVec 4) (v : Word) : htWrite (htWord b k v) = b := by
  simp only [htWrite, htWord, BitVec.getLsbD_append]; simp

@[simp] theorem htWidx_htWord (b : Bool) (k : BitVec 4) (v : Word) : htWidx (htWord b k v) = k := by
  apply BitVec.eq_of_getLsbD_eq; intro i hi
  simp only [htWidx, htWord, BitVec.getLsbD_extractLsb', BitVec.getLsbD_append]
  simp [hi]

@[simp] theorem htData_htWord (b : Bool) (k : BitVec 4) (v : Word) : htData (htWord b k v) = v := by
  apply BitVec.eq_of_getLsbD_eq; intro i hi
  simp only [htData, htWord, BitVec.getLsbD_extractLsb', BitVec.getLsbD_append]
  simp [hi]

/-- An HT word is its three fields (R100). -/
theorem htWord_fields (w : HT) : htWord (htWrite w) (htWidx w) (htData w) = w := by
  apply BitVec.eq_of_getLsbD_eq; intro i hi
  simp only [htWord, htWrite, htWidx, htData, BitVec.getLsbD_append, BitVec.getLsbD_extractLsb']
  by_cases h1 : i < 32
  · simp [h1]
  · by_cases h2 : i < 36
    · simp [h1, show i - 32 < 4 by omega, show 32 + (i - 32) = i by omega]
    · simp [show i = 36 by omega]

/-- A word index of a reserved offset is 12 to 15 (R101). -/
theorem reservedWidx_toNat (k : BitVec 2) : (3#2 ++ k : BitVec 4).toNat = 12 + k.toNat := by
  revert k; decide

/-- The low bits of a reserved word index (R101). -/
@[simp] theorem reservedWidx_low (k : BitVec 2) : (3#2 ++ k : BitVec 4).extractLsb' 0 2 = k := by
  revert k; decide

/-- A CTRL value is its reserved bits above its command code (R102). -/
theorem ctrl_fields (v : Word) : ctrlReserved v ++ ctrlCmd v = v := by
  apply BitVec.eq_of_getLsbD_eq; intro i hi
  simp only [ctrlReserved, ctrlCmd, BitVec.getLsbD_append, BitVec.getLsbD_extractLsb']
  by_cases h : i < 4
  · simp [h]
  · simp [h, show i - 4 < 28 by omega, show 4 + (i - 4) = i by omega]

end Sys2Proof
end

