-- ==== Sys2Proof/Laws/Flags.lean ====
section
/-! SUPPORT. The five VRESULT bits of a verdict, one by one (R49), and the checks by name (R190). -/

namespace Sys2Proof.Machine

theorem verdictBits_valid (r : Verdict) : (verdictBits r).getLsbD 0 = r.valid := by
  obtain ⟨a, b, c, d, e⟩ := r; revert a b c d e; decide

theorem verdictBits_shortFail (r : Verdict) : (verdictBits r).getLsbD 1 = r.shortFail := by
  obtain ⟨a, b, c, d, e⟩ := r; revert a b c d e; decide

theorem verdictBits_typeFail (r : Verdict) : (verdictBits r).getLsbD 2 = r.typeFail := by
  obtain ⟨a, b, c, d, e⟩ := r; revert a b c d e; decide

theorem verdictBits_alignFail (r : Verdict) : (verdictBits r).getLsbD 3 = r.alignFail := by
  obtain ⟨a, b, c, d, e⟩ := r; revert a b c d e; decide

theorem verdictBits_lenFail (r : Verdict) : (verdictBits r).getLsbD 4 = r.lenFail := by
  obtain ⟨a, b, c, d, e⟩ := r; revert a b c d e; decide

/-- VALID agrees with the four check bits (R49). -/
theorem verdictBits_agree (n : Nat) (b0 b2 b3 : Byte) :
    (verdictBits (checkPacket n b0 b2 b3)).getLsbD 0 = true ↔
      (verdictBits (checkPacket n b0 b2 b3)).extractLsb' 1 4 = 0 := by
  have key : ∀ l a t s : Bool, (verdictBits ⟨l, a, t, s, !(s || t || a || l)⟩).getLsbD 0 = true ↔
      (verdictBits ⟨l, a, t, s, !(s || t || a || l)⟩).extractLsb' 1 4 = 0 := by decide
  exact key _ _ _ _

theorem checkPacket_shortFail (n : Nat) (b0 b2 b3 : Byte) :
    (checkPacket n b0 b2 b3).shortFail = decide (n < 4) := rfl

theorem checkPacket_alignFail (n : Nat) (b0 b2 b3 : Byte) :
    (checkPacket n b0 b2 b3).alignFail = decide (n % 16 ≠ 0) := rfl

theorem checkPacket_typeFail (n : Nat) (b0 b2 b3 : Byte) :
    (checkPacket n b0 b2 b3).typeFail = (!decide (n < 4) && decide (b0 ≠ 0x26)) := rfl

theorem checkPacket_lenFail (n : Nat) (b0 b2 b3 : Byte) :
    (checkPacket n b0 b2 b3).lenFail =
      (!decide (n < 4) && decide (ceil16 (4 + declaredLength b2 b3) ≠ n)) := rfl

end Sys2Proof.Machine
end

