-- ==== Sys2Proof/Laws/PerInstr.lean ====
section
/-! SUPPORT. Per instruction: the encoding of a transaction matches its row of spec/opcode_table.json
under the row's mask (R100, R104). -/

namespace Sys2Proof.Laws.TableRow

/-- The bits a row of the opcode table fixes: its "mask". -/
def mask : Instr → HT
  | .rdId => 0x1F00000000
  | .rdCtrl => 0x1F00000000
  | .rdStatus => 0x1F00000000
  | .rdPulse => 0x1F00000000
  | .rdPaylen => 0x1F00000000
  | .rdPktlen => 0x1F00000000
  | .rdPcount => 0x1F00000000
  | .rdLasttick => 0x1F00000000
  | .rdVlen => 0x1F00000000
  | .rdVresult => 0x1F00000000
  | .rdBufPtr => 0x1F00000000
  | .rdBufData => 0x1F00000000
  | .rdRsvd _ => 0x1C00000000
  | .nop => 0x1FFFFFFFFF
  | .encBegin => 0x1FFFFFFFFF
  | .encEnd => 0x1FFFFFFFFF
  | .encAbort => 0x1FFFFFFFFF
  | .validate => 0x1FFFFFFFFF
  | .softReset => 0x1FFFFFFFFF
  | .wrCtrlIllegal _ => 0x1F00000000
  | .wrId _ => 0x1F00000000
  | .wrStatus _ => 0x1F00000000
  | .wrPulse _ => 0x1F00000000
  | .wrPaylen _ => 0x1F00000000
  | .wrPktlen _ => 0x1F00000000
  | .wrPcount _ => 0x1F00000000
  | .wrLasttick _ => 0x1F00000000
  | .wrVlen _ => 0x1F00000000
  | .wrVresult _ => 0x1F00000000
  | .wrBufPtr _ => 0x1F00000000
  | .wrBufData _ => 0x1F00000000
  | .wrRsvd _ _ => 0x1C00000000

/-- The value of those bits in the row: its "match". -/
def bits : Instr → HT
  | .rdId => 0x0000000000
  | .rdCtrl => 0x0100000000
  | .rdStatus => 0x0200000000
  | .rdPulse => 0x0300000000
  | .rdPaylen => 0x0400000000
  | .rdPktlen => 0x0500000000
  | .rdPcount => 0x0600000000
  | .rdLasttick => 0x0700000000
  | .rdVlen => 0x0800000000
  | .rdVresult => 0x0900000000
  | .rdBufPtr => 0x0A00000000
  | .rdBufData => 0x0B00000000
  | .rdRsvd _ => 0x0C00000000
  | .nop => 0x1100000000
  | .encBegin => 0x1100000001
  | .encEnd => 0x1100000002
  | .encAbort => 0x1100000003
  | .validate => 0x1100000004
  | .softReset => 0x110000000F
  | .wrCtrlIllegal _ => 0x1100000000
  | .wrId _ => 0x1000000000
  | .wrStatus _ => 0x1200000000
  | .wrPulse _ => 0x1300000000
  | .wrPaylen _ => 0x1400000000
  | .wrPktlen _ => 0x1500000000
  | .wrPcount _ => 0x1600000000
  | .wrLasttick _ => 0x1700000000
  | .wrVlen _ => 0x1800000000
  | .wrVresult _ => 0x1900000000
  | .wrBufPtr _ => 0x1A00000000
  | .wrBufData _ => 0x1B00000000
  | .wrRsvd _ _ => 0x1C00000000

/-- A well-formed transaction's word matches its row of the opcode table. -/
def Statement (i : Instr) : Prop := i.wellFormed = true → encode i &&& mask i = bits i

/-- Masking W and WIDX whole leaves the two fields, whatever DATA is. -/
theorem and_fields (b : Bool) (k : BitVec 4) (v : Word) :
    htWord b k v &&& 0x1F00000000#37 = BitVec.ofBool b ++ k ++ 0#32 := by
  have h : ((BitVec.ofBool b ++ k) ++ v) &&& (BitVec.allOnes (1 + 4) ++ 0#32) =
      BitVec.ofBool b ++ k ++ 0#32 := by
    rw [BitVec.and_append, BitVec.and_allOnes, BitVec.and_zero]
  exact h

/-- Masking W and WIDX[3:2] leaves them, whatever the reserved offset and DATA are. -/
theorem and_reserved (b : Bool) (k : BitVec 2) (v : Word) :
    htWord b (3#2 ++ k) v &&& 0x1C00000000#37 = BitVec.ofBool b ++ (3#2 ++ 0#2) ++ 0#32 := by
  have h5 : ∀ (b : Bool) (k : BitVec 2),
      (BitVec.ofBool b ++ (3#2 ++ k)) &&& (0x1C : BitVec (1 + (2 + 2))) = BitVec.ofBool b ++ (3#2 ++ 0#2) := by
    decide
  have h : ((BitVec.ofBool b ++ (3#2 ++ k)) ++ v) &&& ((0x1C : BitVec (1 + (2 + 2))) ++ 0#32) =
      BitVec.ofBool b ++ (3#2 ++ 0#2) ++ 0#32 := by
    rw [BitVec.and_append, h5, BitVec.and_zero]
  exact h

theorem rdId : Statement .rdId := fun _ => (and_fields _ _ _).trans rfl
theorem rdCtrl : Statement .rdCtrl := fun _ => (and_fields _ _ _).trans rfl
theorem rdStatus : Statement .rdStatus := fun _ => (and_fields _ _ _).trans rfl
theorem rdPulse : Statement .rdPulse := fun _ => (and_fields _ _ _).trans rfl
theorem rdPaylen : Statement .rdPaylen := fun _ => (and_fields _ _ _).trans rfl
theorem rdPktlen : Statement .rdPktlen := fun _ => (and_fields _ _ _).trans rfl
theorem rdPcount : Statement .rdPcount := fun _ => (and_fields _ _ _).trans rfl
theorem rdLasttick : Statement .rdLasttick := fun _ => (and_fields _ _ _).trans rfl
theorem rdVlen : Statement .rdVlen := fun _ => (and_fields _ _ _).trans rfl
theorem rdVresult : Statement .rdVresult := fun _ => (and_fields _ _ _).trans rfl
theorem rdBufPtr : Statement .rdBufPtr := fun _ => (and_fields _ _ _).trans rfl
theorem rdBufData : Statement .rdBufData := fun _ => (and_fields _ _ _).trans rfl
theorem rdRsvd (k : BitVec 2) : Statement (.rdRsvd k) := fun _ => (and_reserved _ _ _).trans rfl
theorem nop : Statement .nop := fun _ => by decide
theorem encBegin : Statement .encBegin := fun _ => by decide
theorem encEnd : Statement .encEnd := fun _ => by decide
theorem encAbort : Statement .encAbort := fun _ => by decide
theorem validate : Statement .validate := fun _ => by decide
theorem softReset : Statement .softReset := fun _ => by decide
theorem wrCtrlIllegal (v : Word) : Statement (.wrCtrlIllegal v) := fun _ => (and_fields _ _ _).trans rfl
theorem wrId (v : Word) : Statement (.wrId v) := fun _ => (and_fields _ _ _).trans rfl
theorem wrStatus (v : Word) : Statement (.wrStatus v) := fun _ => (and_fields _ _ _).trans rfl
theorem wrPulse (v : Word) : Statement (.wrPulse v) := fun _ => (and_fields _ _ _).trans rfl
theorem wrPaylen (v : Word) : Statement (.wrPaylen v) := fun _ => (and_fields _ _ _).trans rfl
theorem wrPktlen (v : Word) : Statement (.wrPktlen v) := fun _ => (and_fields _ _ _).trans rfl
theorem wrPcount (v : Word) : Statement (.wrPcount v) := fun _ => (and_fields _ _ _).trans rfl
theorem wrLasttick (v : Word) : Statement (.wrLasttick v) := fun _ => (and_fields _ _ _).trans rfl
theorem wrVlen (v : Word) : Statement (.wrVlen v) := fun _ => (and_fields _ _ _).trans rfl
theorem wrVresult (v : Word) : Statement (.wrVresult v) := fun _ => (and_fields _ _ _).trans rfl
theorem wrBufPtr (v : Word) : Statement (.wrBufPtr v) := fun _ => (and_fields _ _ _).trans rfl
theorem wrBufData (v : Word) : Statement (.wrBufData v) := fun _ => (and_fields _ _ _).trans rfl
theorem wrRsvd (k : BitVec 2) (v : Word) : Statement (.wrRsvd k v) := fun _ => (and_reserved _ _ _).trans rfl

end Sys2Proof.Laws.TableRow
end

