-- ==== Sys2Proof/Tests/Slice0.lean ====
section
/-! SUPPORT. Tests of the model against values written in spec/: the HT words of opcode_table.json and the
rules, the vectors of 95_test_vectors.md, and one witness for every statement with hypotheses. -/

namespace Sys2Proof.Tests

open Sys2Proof.Machine

/-- The state a transaction leaves, if it answers one. -/
def got : Result → Option State
  | .next t => some t
  | .fault _ => none
  | .refused _ => none

/-- A session with the header cleared and `n` payload bytes accepted. -/
def session (n : BitVec 16) (ovf : Bool) : State :=
  { State.reset with mode := .encoding, paylen := n, ovf := ovf, buf := [(0, 0), (1, 0), (2, 0), (3, 0)] }

/-- Mode IDLE, the bytes `bs` in BUF from address 0 on, and VLEN = `n`. -/
def checking (bs : List Byte) (n : Word) : State :=
  { State.reset with buf := Memory.writeBytes [] 0 bs, vlen := n }

/-- Mode IDLE with BUF_PTR = `p`. -/
def pointing (p : Word) : State := { State.reset with bufPtr := p }

/-- A read access at byte offset `o`. -/
def readAt (o w : Nat) (en : BitVec 4) : Access :=
  { write := false, offset := o, width := w, enables := en, data := 0 }

/-- Reset with the event `e` pending. -/
def facing (e : PortEvent) : State := { State.reset with pending := [e] }

/-! ## Well-formedness and decoding -/

/-- R102, R222: the legal codes are refused as WR_CTRL_ILLEGAL, reserved codes and bits are not. -/
theorem test_wellFormed_refuses_legal_command : (Instr.wrCtrlIllegal 0x0).wellFormed = false ∧
    (Instr.wrCtrlIllegal 0x4).wellFormed = false ∧ (Instr.wrCtrlIllegal 0xF).wellFormed = false ∧
    (Instr.wrCtrlIllegal 0x5).wellFormed = true ∧ (Instr.wrCtrlIllegal 0xE).wellFormed = true ∧
    (Instr.wrCtrlIllegal 0x10).wellFormed = true ∧ (Instr.wrCtrlIllegal 0x11).wellFormed = true := by
  decide

/-- W = 0: opcode_table.json rows RD_*, R223 to R237, R240. -/
theorem test_decode_reads : decode 0x0000000000 = .rdId ∧ decode 0x0100000000 = .rdCtrl ∧
    decode 0x0200000000 = .rdStatus ∧ decode 0x0300000000 = .rdPulse ∧
    decode 0x0400000000 = .rdPaylen ∧ decode 0x0500000000 = .rdPktlen ∧
    decode 0x0600000000 = .rdPcount ∧ decode 0x0700000000 = .rdLasttick ∧
    decode 0x0800000000 = .rdVlen ∧ decode 0x0900000000 = .rdVresult ∧
    decode 0x0A00000000 = .rdBufPtr ∧ decode 0x0B00000000 = .rdBufData ∧
    decode 0x0C00000000 = .rdRsvd 0 ∧ decode 0x0F00000000 = .rdRsvd 3 := by decide

/-- R102: the command words, and R222's corner words. -/
theorem test_decode_commands : decode 0x1100000000 = .nop ∧ decode 0x1100000001 = .encBegin ∧
    decode 0x1100000002 = .encEnd ∧ decode 0x1100000003 = .encAbort ∧
    decode 0x1100000004 = .validate ∧ decode 0x110000000F = .softReset ∧
    decode 0x1100000007 = .wrCtrlIllegal 0x7 ∧ decode 0x1100000010 = .wrCtrlIllegal 0x10 ∧
    decode 0x1180000001 = .wrCtrlIllegal 0x80000001 := by decide

/-- W = 1: opcode_table.json rows WR_*, with the DATA of 95_test_vectors.md section 3 where it has one. -/
theorem test_decode_writes : decode 0x1000000005 = .wrId 5 ∧ decode 0x1200000030 = .wrStatus 0x30 ∧
    decode 0x1300002300 = .wrPulse 8960 ∧ decode 0x1400000001 = .wrPaylen 1 ∧
    decode 0x1500000020 = .wrPktlen 32 ∧ decode 0x1600000001 = .wrPcount 1 ∧
    decode 0x1700000001 = .wrLasttick 1 ∧ decode 0x1800000050 = .wrVlen 80 ∧
    decode 0x1900000001 = .wrVresult 1 ∧ decode 0x1A00010010 = .wrBufPtr 65552 ∧
    decode 0x1B00000025 = .wrBufData 0x25 ∧ decode 0x1CFFFFFFFF = .wrRsvd 0 0xFFFFFFFF ∧
    decode 0x1E00000001 = .wrRsvd 2 1 := by decide

/-- R100: a number above 37 bits is no HT word. -/
theorem test_decodeNat_refuses_bit37 : decodeNat (2 ^ 37) = .error .notHostTransaction ∧
    decodeTableWord 40 0x1100000001 = some .encBegin ∧ decodeTableWord 40 (2 ^ 39) = none := by
  exact ⟨rfl, rfl, rfl⟩

/-- The first step after reset runs the word placed for it. -/
theorem test_withFetchWord_runs : (got (step (State.reset.withFetchWord 40 0x1800000010))).map (·.vlen) =
    some 16 := by decide

/-! ## Scale, Pack, Encode: 95_test_vectors.md 2.1 to 2.3 -/

theorem test_scale_vectors : [0, 32, 33, 65, 66, 560, 1680, 8374, 8406, 8407, 8960, 33625, 40240, 108000,
      2151967, 2151968, 2152000, 4294967295].map (scale Config.device) =
    [0, 0, 1, 1, 2, 17, 51, 255, 255, 256, 272, 1024, 1225, 3288, 65534, 65535, 65535, 65535] := by decide

theorem test_pack_vectors : pack 0x7F = [0x7F] ∧ pack 257 = [0x00, 0x01, 0x01] ∧
    pack 0x1234 = [0x00, 0x12, 0x34] ∧ pack 65535 = [0x00, 0xFF, 0xFF] := by decide

theorem test_encode_vector : encodeTrain Config.device [560, 1680, 8960] =
    some [0x26, 0x00, 0x05, 0x00, 0x11, 0x33, 0x00, 0x01, 0x10, 0, 0, 0, 0, 0, 0, 0] := by decide

/-! ## Sessions: 95_test_vectors.md 2.4 -/

theorem test_encBegin_from_reset : (got (exec .encBegin State.reset)).map
    (fun t => (statusWord t, t.paylen, t.pktlen, t.buf)) =
    some (0x01, 0, 0, [(0, 0), (1, 0), (2, 0), (3, 0)]) := by decide

theorem test_encBegin_in_session : (got (exec .encBegin (session 3 false))).map
    (fun t => (statusWord t, t.paylen)) = some (0x11, 3) := by decide

theorem test_pulse_8960 : (got (exec (.wrPulse 8960) (session 0 false))).map
    (fun t => (t.paylen, t.pcount, t.lasttick, t.buf.map (·.2))) =
    some (3, 1, 272, [0, 0, 0, 0, 0x00, 0x01, 0x10]) := by decide

/-- The rejected reading of 90_conflicts.md C1, TICK_NUM = 269 and TICK_DEN = 8192, is another machine under
the same exec: 560 * 269 / 8192 = 18.38. -/
theorem test_pulse_other_tick :
    (got (exec (.wrPulse 560) { session 0 false with config := { tickNum := 269, tickDen := 8192 } })).map
      (·.lasttick) = some 18 := by decide

/-- R144's pseudocode: a long form fits exactly at 65532, since 65532 + 3 = 65535; it overflows at 65534,
a short form at 65535; a pulse is dropped once OVF = 1. -/
theorem test_pulse_capacity :
    (got (exec (.wrPulse 8407) (session 65532 false))).map (fun t => (t.paylen, t.ovf)) = some (65535, false) ∧
    (got (exec (.wrPulse 8407) (session 65534 false))).map
      (fun t => (statusWord t, t.paylen, t.lasttick)) = some (0x09, 65534, 256) ∧
    (got (exec (.wrPulse 0) (session 65535 false))).map (fun t => (t.ovf, t.lasttick, t.pcount)) =
      some (true, 0, 0) ∧
    (got (exec (.wrPulse 33) (session 65534 true))).map (fun t => (t.paylen, t.lasttick)) =
      some (65534, 1) := by decide

/-- The example of R145: header, length little-endian, padding. -/
theorem test_encEnd_example : (got (exec .encEnd ((session 5 false).setBuf
      (Memory.writeBytes [] 4 [0x11, 0x33, 0x00, 0x01, 0x10])))).map
    (fun t => (statusWord t, t.pktlen, t.buf.map (·.2))) =
    some (0x02, 16, [0x26, 0x00, 0x05, 0x00, 0x11, 0x33, 0x00, 0x01, 0x10, 0, 0, 0, 0, 0, 0, 0]) := by decide

/-- At 65533 a long form would make 65536 bytes, above PAYLOAD_MAX = 65535: the pseudocode and R34 win
over R144's corner and the vector of 95_test_vectors.md 2.4, which add 65533 + 3 to 65535 (log 13). -/
theorem test_pulse_at_65533 : (got (exec (.wrPulse 8407) (session 65533 false))).map
    (fun t => (t.paylen, t.ovf)) = some (65533, true) := by decide

theorem test_encEnd_overflowed : (got (exec .encEnd (session 65534 true))).map
    (fun t => (statusWord t, t.pktlen, t.buf.map (·.2))) = some (0x0C, 0, [0, 0, 0, 0]) := by decide

theorem test_encAbort : (got (exec .encAbort (session 1 false))).map (fun t => (statusWord t, t.paylen)) =
    some (0x00, 1) ∧ (got (exec .encAbort State.reset)).map statusWord = some 0x10 := by decide

theorem test_idle_errors : (got (exec (.wrPulse 100) State.reset)).map (fun t => (statusWord t, t.lasttick)) =
    some (0x10, 0) ∧ (got (exec .encEnd State.reset)).map statusWord = some 0x10 := by decide

/-! ## VALIDATE: 95_test_vectors.md 2.5 -/

/-- V1 to V12: the header alone decides, so only it is placed. -/
theorem test_validate_vectors : [((0, 0, 0), 0), ((0x26, 0, 0), 2), ((0x26, 0, 0), 4), ((0x26, 0, 0), 12),
      ((0x26, 0, 0), 16), ((0x26, 0x0C, 0), 16), ((0x26, 0x0D, 0), 16), ((0x26, 0x0D, 0), 32),
      ((0x26, 0x1C, 0), 32), ((0x26, 0x1D, 0), 32), ((0, 0, 0), 16), ((0x25, 0x05, 0), 16)].map
      (fun c => (got (exec .validate (checking [c.1.1, 0, c.1.2.1, c.1.2.2] c.2))).map (·.vres)) =
    [0x02, 0x0A, 0x18, 0x18, 0x01, 0x01, 0x10, 0x01, 0x01, 0x10, 0x04, 0x04].map some := by decide

/-- V13, V15 to V22, with a nonzero repeat byte. -/
theorem test_validate_lengths : [((0x26, 0x05, 0), 16), ((0x26, 0x10, 0), 20), ((0x26, 0, 1), 272),
      ((0x26, 1, 0), 272), ((0, 0, 0), 17), ((0x26, 0xFF, 0xFF), 65552), ((0x26, 0xFF, 0xFF), 65553),
      ((0x26, 0xFF, 0xFF), 65536), ((0x26, 0xFF, 0xFF), 0xFFFFFFFF)].map
      (fun c => (got (exec .validate (checking [c.1.1, 7, c.1.2.1, c.1.2.2] c.2))).map (·.vres)) =
    [0x01, 0x18, 0x01, 0x10, 0x1C, 0x01, 0x18, 0x10, 0x18].map some := by decide

/-! ## Register access: 95_test_vectors.md 2.6 and the examples of spec/42_host_access.md -/

theorem test_constant_reads : (got (exec .rdId State.reset)).map (·.readLog) = some [0x49525045] ∧
    (got (exec .rdCtrl State.reset)).map (·.readLog) = some [0] ∧
    (got (exec .rdPulse State.reset)).map (·.readLog) = some [0] ∧
    (got (exec (.rdRsvd 0) State.reset)).map (·.readLog) = some [0] := by decide

theorem test_register_reads :
    (got (exec .rdStatus { State.reset with vDone := true, bufErr := true })).map (·.readLog) = some [0x60] ∧
    (got (exec .rdPaylen (session 5 false))).map (·.readLog) = some [5] ∧
    (got (exec .rdPktlen { State.reset with pktlen := 65552 })).map (·.readLog) = some [65552] ∧
    (got (exec .rdPcount { State.reset with pcount := 3 })).map (·.readLog) = some [3] ∧
    (got (exec .rdLasttick { State.reset with lasttick := 65535 })).map (·.readLog) = some [65535] ∧
    (got (exec .rdVlen { State.reset with vlen := 0xFFFFFFFF })).map (·.readLog) = some [0xFFFFFFFF] ∧
    (got (exec .rdVresult { State.reset with vres := 0x0A })).map (·.readLog) = some [0x0A] ∧
    (got (exec .rdBufPtr (pointing 5))).map (·.readLog) = some [5] := by decide

theorem test_illegal_commands :
    (got (exec (decode 0x1100000007) State.reset)).map statusWord = some 0x10 ∧
    (got (exec (decode 0x1100000011) State.reset)).map (fun t => (statusWord t, t.mode)) =
      some (0x10, .idle) := by decide

theorem test_wrStatus_w1c :
    (got (exec (.wrStatus 0x10) { State.reset with cmdErr := true, bufErr := true })).map statusWord =
      some 0x20 ∧
    (got (exec (.wrStatus 0xFF) { State.reset with ovf := true, encFail := true })).map statusWord =
      some 0x0C := by decide

theorem test_bufData_write : (got (exec (.wrBufData 0xAB) (pointing 65551))).map
      (fun t => (t.bufPtr, t.buf)) = some (65552, [(65551, 0xAB)]) ∧
    (got (exec (.wrBufData 0x1FF) State.reset)).map (·.buf) = some [(0, 0xFF)] := by decide

/-- R266: in mode ENCODING at BUF_PTR 65552 only CMD_ERR is set. -/
theorem test_bufData_write_precedence :
    (got (exec (.wrBufData 1) { session 0 false with bufPtr := 65552 })).map statusWord = some 0x11 ∧
    (got (exec (.wrBufData 1) (pointing 65552))).map statusWord = some 0x20 := by decide

theorem test_bufData_read : (got (exec .rdBufData (pointing 65552))).map
      (fun t => (t.readLog, statusWord t, t.bufPtr)) = some ([0], 0x20, 65552) ∧
    (got (exec .rdBufData (checking [0x26, 0x00, 0x05] 0))).map
      (fun t => (t.readLog, t.bufPtr, t.draws)) = some ([0x26], 1, 0) := by decide

/-- R72: the read of an unwritten byte answers the next draw, whatever it is. -/
theorem test_bufData_read_unwritten : exec .rdBufData (pointing 4) =
    .next { pointing 5 with draws := 1, readLog := [(Config.draw 0).setWidth 32] } := rfl

theorem test_softReset_keeps_buf : (got (exec .softReset { session 7 true with vDone := true, vlen := 9 })).map
    (fun t => (t.mode, statusWord t, t.paylen, t.vlen, t.buf.map (·.2))) =
    some (.idle, 0, 0, 0, [0, 0, 0, 0]) := by decide

theorem test_ignored_writes : (got (exec (.wrPktlen 32) State.reset)).map (·.pktlen) = some 0 ∧
    (got (exec (.wrVresult 1) State.reset)).map (·.vres) = some 0 := by decide

theorem test_stored_writes : (got (exec (.wrVlen 0xFFFFFFFF) State.reset)).map (·.vlen) = some 0xFFFFFFFF ∧
    (got (exec (.wrBufPtr 65552) State.reset)).map (fun t => (t.bufPtr, statusWord t)) =
      some (65552, 0) := by decide

/-! ## Witnesses: every statement with hypotheses has a state and operands that meet them -/

/-- A session right after ENC_BEGIN meets the invariant, also once it has overflowed. -/
theorem witness_session_inv (b : Bool) : Inv (session 0 b) where
  bufWf := by cases b <;> decide
  countLe := by cases b <;> decide
  pktlenEq := by left; rfl
  readyIff := by simp [session, State.reset]
  encodingNotReady := fun _ => rfl
  encodingNotFailed := fun _ => rfl
  failedOvf := by simp [session, State.reset]
  ovfNotReady := fun _ => rfl
  encodingHeader := by
    intro _ a ha
    have : a = 0 ∨ a = 1 ∨ a = 2 ∨ a = 3 := by simp at ha; omega
    rcases this with rfl | rfl | rfl | rfl <;> rfl
  verdict := by simp [session, State.reset]
  noVerdict := fun _ => rfl

/-- For StickyFlagsStaySet: the state a completed empty session leaves meets the invariant with
PKT_READY set. -/
def completed : State := { State.reset with pktlen := 16, pktReady := true }

theorem witness_completed_inv : Inv completed where
  bufWf := by decide
  countLe := by decide
  pktlenEq := by right; rfl
  readyIff := by simp [completed]
  encodingNotReady := by simp [completed, State.reset]
  encodingNotFailed := by simp [completed, State.reset]
  failedOvf := by simp [completed, State.reset]
  ovfNotReady := by simp [completed, State.reset]
  encodingHeader := by simp [completed, State.reset]
  verdict := by simp [completed, State.reset]
  noVerdict := fun _ => rfl

/-- DecodeOfEncodeIsIdentity. -/
theorem witness_wellFormed : (Instr.wrCtrlIllegal 0x11).wellFormed = true ∧ Instr.rdId.wellFormed = true := by
  decide

/-- DecodeSelectsTheRow: the reserved word indexes, at both ends. -/
theorem witness_reserved_widx : 12 ≤ (12 : BitVec 4).toNat ∧ 12 ≤ (15 : BitVec 4).toNat := by decide

/-- StepRunsTheDecodedTransaction: an allowed access at the last offset, and the largest HT word. -/
theorem witness_allowed_access :
    (facing (.access (readAt 0x3C 32 0b1111))).pending = .access (readAt 0x3C 32 0b1111) :: [] ∧
    accessAllowed (readAt 0x3C 32 0b1111) = true ∧ 2 ^ 37 - 1 < 2 ^ 37 := by decide

/-- OutOfProtocolAccessIsRefused: one access for each of the four reasons, each met alone. -/
theorem witness_refused_accesses :
    ((readAt 0 16 0b1111).width ≠ 32) ∧ ((readAt 2 32 0b1111).offset % 4 ≠ 0) ∧
    (0x40 ≤ (readAt 0x40 32 0b1111).offset) ∧ ((readAt 0 32 0b0111).enables ≠ 0b1111) ∧
    accessAllowed (readAt 0 16 0b1111) = false ∧ accessAllowed (readAt 2 32 0b1111) = false ∧
    accessAllowed (readAt 0x40 32 0b1111) = false ∧ accessAllowed (readAt 0 32 0b0111) = false := by decide

/-- OutOfProtocolAccessIsRefused: the premise on the pending events. -/
theorem witness_refused_access_pending : (facing (.access (readAt 0x40 32 0b1111))).pending =
    .access (readAt 0x40 32 0b1111) :: [] := rfl

/-- NoStepWithoutAnEvent. -/
theorem witness_no_event : State.reset.pending = [] := rfl

/-- ConfigurationNeverChanges, ResetEventsRestoreTheResetState, HardResetKeepsTheHostSide,
ReadsAfterHardReset. -/
theorem witness_hard_reset : (facing .hardReset).pending = .hardReset :: [] ∧
    step (facing .hardReset) = .next State.reset ∧ exec .softReset State.reset = .next State.reset :=
  ⟨rfl, rfl, rfl⟩

/-- StepKeepsTheInvariant: a session with the next transaction pending. -/
theorem witness_invariant_step : Inv (facing .hardReset) ∧
    step (facing .hardReset) = .next State.reset := by
  refine ⟨?_, rfl⟩
  constructor <;> simp [facing, State.reset, Memory.wf, Memory.wfFrom]

/-- IllegalCommandsRaiseCmdErr: a reserved bit, and the two ends of the reserved codes. -/
theorem witness_illegal_values : (0x10 : Word).extractLsb' 4 28 ≠ 0 ∧
    (5 ≤ ((0x5 : Word).extractLsb' 0 4).toNat ∧ ((0x5 : Word).extractLsb' 0 4).toNat ≤ 14) ∧
    (5 ≤ ((0xE : Word).extractLsb' 0 4).toNat ∧ ((0xE : Word).extractLsb' 0 4).toNat ≤ 14) := by decide

/-- StatusReadsItsBits, ResetMeetsTheInvariant: a state that meets the invariant. -/
theorem witness_inv_completed_status : Inv completed ∧ completed.pktReady = true :=
  ⟨witness_completed_inv, rfl⟩

/-- RegistersShowTheWholeState: two states that answer the reads alike, with different buffers. -/
theorem witness_same_answers : ∀ i ∈ [Instr.rdStatus, .rdPaylen, .rdPktlen, .rdPcount, .rdLasttick, .rdVlen,
    .rdVresult, .rdBufPtr], ∃ v : Word, exec i State.reset = .next (State.reset.answer v) ∧
      exec i (checking [1] 0) = .next ((checking [1] 0).answer v) := by
  intro i hi
  simp only [List.mem_cons, List.not_mem_nil, or_false] at hi
  rcases hi with rfl | rfl | rfl | rfl | rfl | rfl | rfl | rfl <;> exact ⟨_, rfl, rfl⟩

/-- BufDataReadReturnsTheByte: each clause at the edge of its range, written and unwritten. -/
theorem witness_bufData_read : (pointing 65551).bufPtr.toNat < 65552 ∧
    (checking [0x26] 0).buf.read (checking [0x26] 0).bufPtr.toNat = some 0x26 ∧
    (pointing 65551).buf.read (pointing 65551).bufPtr.toNat = none ∧
    65552 ≤ (pointing 65552).bufPtr.toNat := by decide

/-- BufDataWriteStoresTheByte: each clause at the edge of its range. -/
theorem witness_bufData_write : ((pointing 65551).mode = .idle ∧ (pointing 65551).bufPtr.toNat < 65552) ∧
    (session 0 false).mode = .encoding ∧
    ((pointing 65552).mode = .idle ∧ 65552 ≤ (pointing 65552).bufPtr.toNat) := by decide

/-- UnwrittenByteDrawsAfresh, WrittenByteIsReadBack. -/
theorem witness_window_sequences : ((pointing 65551).bufPtr.toNat < 65552 ∧
    (pointing 65551).buf.read (pointing 65551).bufPtr.toNat = none) ∧
    (State.reset.mode = .idle ∧ (65551 : Word).toNat < 65552) := by decide

/-- ScaleDividesAndClamps: the smallest duration with an integer quotient. -/
theorem witness_integer_quotient : 0 < (33625 : Word).toNat ∧ (33625 : Word).toNat * 8192 % 269000 = 0 := by
  decide +kernel

/-- PackUsesOneOrThreeBytes: the last short and the first long count. -/
theorem witness_pack_forms : (255 : Tick).toNat < 256 ∧ 256 ≤ (256 : Tick).toNat := by decide

/-- NonzeroTicksPackUniquely. -/
theorem witness_nonzero_ticks : (∀ t ∈ [(17 : Tick), 256], t ≠ 0) ∧
    [(17 : Tick), 256].flatMap pack = [(17 : Tick), 256].flatMap pack := by
  refine ⟨fun t ht => ?_, rfl⟩
  rcases List.mem_pair.mp ht with rfl | rfl <;> decide

/-- EncodeFramesThePayload, CapacityOfASession: payloads of the lengths named. -/
theorem witness_payload_lengths : (List.replicate 12 (0 : Byte)).length = 12 ∧
    (List.replicate 13 (0 : Byte)).length = 13 ∧ (List.replicate 65535 (0 : Byte)).length = 65535 ∧
    (payload Config.device []).length ≤ 65535 :=
  ⟨List.length_replicate, List.length_replicate, List.length_replicate, Nat.zero_le _⟩

/-- EncodeFramesThePayload: a train that overflows. -/
theorem witness_overflowing_train :
    65535 < (payload Config.device (List.replicate 65536 0)).length := by
  have : ∀ n, (payload Config.device (List.replicate n 0)).length = n := by
    intro n
    induction n with
    | zero => rfl
    | succ n ih =>
      rw [List.replicate_succ, payload_cons, List.length_append, ih]
      have : (pack (scale Config.device 0)).length = 1 := by decide
      omega
  rw [this 65536]; norm_num

/-- CapacityOfASession: trains of one form. -/
theorem witness_one_form_trains : (∀ d ∈ [(560 : Word)], (scale Config.device d).toNat < 256) ∧
    (∀ d ∈ [(8960 : Word)], 256 ≤ (scale Config.device d).toNat) := by
  constructor <;> intro d hd <;> rw [List.mem_singleton.mp hd] <;> decide

/-- EncBeginStartsASession, EncAbortAbandonsTheSession: both modes, and the invariant in a session. -/
theorem witness_modes : State.reset.mode = .idle ∧ (session 0 false).mode = .encoding ∧
    Inv (session 0 false) := ⟨rfl, rfl, witness_session_inv false⟩

/-- PulseAppendsItsElement: one state for each clause, at the edges of the payload. -/
theorem witness_pulse_clauses : State.reset.mode = .idle ∧
    ((session 65534 true).mode = .encoding ∧ (session 65534 true).ovf = true) ∧
    ((session 65534 false).mode = .encoding ∧ (session 65534 false).ovf = false ∧
      65535 < (session 65534 false).paylen.toNat + (pack (scale Config.device 8407)).length) ∧
    ((session 65532 false).mode = .encoding ∧ (session 65532 false).ovf = false ∧
      (session 65532 false).paylen.toNat + (pack (scale Config.device 8407)).length ≤ 65535 ∧
      (session 65532 false).pcount.toNat ≤ (session 65532 false).paylen.toNat) := by decide +kernel

/-- EncEndCompletesThePacket: one state for each clause. -/
theorem witness_encEnd_clauses : State.reset.mode = .idle ∧
    ((session 65535 true).mode = .encoding ∧ (session 65535 true).ovf = true) ∧
    ((session 65535 false).mode = .encoding ∧ (session 65535 false).ovf = false) := by decide

/-- SessionComputesEncode: pulses and an allowed read between, and a STATUS write that clears nothing. -/
theorem witness_session_list : State.reset.mode = .idle ∧
    (∀ i ∈ [Instr.wrPulse 560, .rdPaylen, .wrStatus 0, .wrPulse 8960],
      allowedInSession i = true ∨ (pulseOf i).isSome = true) ∧
    (encodeTrain Config.device (pulsesOf [Instr.wrPulse 560, .rdPaylen, .wrStatus 0, .wrPulse 8960])).isSome
      = true := by decide

/-- SessionComputesEncode: a train that overflows is a list of allowed transactions too. -/
theorem witness_session_overflow :
    (∀ i ∈ (List.replicate 65536 (0 : Word)).map Instr.wrPulse,
      allowedInSession i = true ∨ (pulseOf i).isSome = true) ∧
    encodeTrain Config.device (pulsesOf ((List.replicate 65536 (0 : Word)).map Instr.wrPulse)) = none := by
  constructor
  · intro i hi
    obtain ⟨d, _, rfl⟩ := List.mem_map.mp hi
    exact Or.inr rfl
  · have : pulsesOf ((List.replicate 65536 (0 : Word)).map Instr.wrPulse) = List.replicate 65536 0 := by
      rw [pulsesOf, List.filterMap_map]
      exact List.filterMap_some
    rw [this, encodeTrain, if_neg (Nat.not_le.mpr witness_overflowing_train)]

/-- EncodedPacketsValidate, CapacityOfASession: the packet of the empty train. -/
theorem witness_encoded_packet : (encodeTrain Config.device []).isSome = true := by decide

/-- PacketDependsOnlyOnTheTrain: two idle states of one configuration with different buffers, and the
empty train. -/
theorem witness_two_starts : State.reset.config = (checking [0xFF, 0xFF] 3).config ∧
    State.reset.mode = .idle ∧ (checking [0xFF, 0xFF] 3).mode = .idle ∧
    (got (execAll (.encBegin :: ([] : List Word).map .wrPulse ++ [.encEnd]) State.reset)).isSome = true ∧
    (got (execAll (.encBegin :: ([] : List Word).map .wrPulse ++ [.encEnd]) (checking [0xFF, 0xFF] 3))).isSome
      = true := by decide

/-- ValidateMakesTheFourChecks: a sequence longer than any packet. -/
theorem witness_long_sequence : 65552 < (List.replicate 65553 (0 : Byte)).length := by
  rw [List.length_replicate]; decide

/-- ValidateWritesTheVerdict: one state for each clause, at the edges of VLEN. -/
theorem witness_validate_clauses : (session 0 false).mode = .encoding ∧
    ((checking [] 3).mode = .idle ∧ (checking [] 3).vlen.toNat < 4) ∧
    ((checking [] 4).mode = .idle ∧ 4 ≤ (checking [] 4).vlen.toNat) ∧
    ((checking [] 65553).mode = .idle ∧ 65552 < (checking [] 65553).vlen.toNat) := by decide

/-- ValidateChecksTheBufferedBytes: BUF holds the two bytes of the source's "2600". -/
theorem witness_buffered_bytes : (checking [0x26, 0x00] 2).mode = .idle ∧
    Holds (checking [0x26, 0x00] 2).buf 0 [0x26, 0x00] ∧ (checking [0x26, 0x00] 2).vlen.toNat = 2 := by
  refine ⟨rfl, fun k hk => ?_, rfl⟩
  have : k = 0 ∨ k = 1 := by simp at hk; omega
  rcases this with rfl | rfl <;> rfl

/-- CompletedSessionValidates: a session that ENC_END completes. -/
theorem witness_completable : (session 5 false).mode = .encoding ∧ (session 5 false).ovf = false ∧
    (got (exec .encEnd (session 5 false))).isSome = true := by decide

/-- UnfinishedSessionNeverValidates: a session that meets the invariant, and one that has overflowed. -/
theorem witness_unfinished : Inv (session 0 false) ∧ Inv (session 0 true) ∧
    (session 0 true).mode = .encoding ∧ (session 0 true).ovf = true :=
  ⟨witness_session_inv false, witness_session_inv true, rfl, rfl⟩

/-- RaiseTable, RaisesArePrecise, and the rules that speak of a next state: a raise of each flag from 0,
and an outcome that raises nothing. -/
theorem witness_raises : exec .encBegin (session 0 false) = .next { session 0 false with cmdErr := true } ∧
    (session 0 false).cmdErr = false ∧
    exec (.wrBufData 1) (pointing 65552) = .next { pointing 65552 with bufErr := true } ∧
    (pointing 65552).bufErr = false ∧
    exec (.wrPulse 0) (session 65535 false) = .next (session 65535 true) ∧
    (session 65535 false).ovf = false ∧
    exec .encEnd (session 0 true) =
      .next { session 0 true with mode := .idle, encFail := true } ∧
    (session 0 true).encFail = false ∧ exec .nop State.reset = .next State.reset :=
  ⟨rfl, rfl, rfl, rfl, rfl, rfl, rfl, rfl, rfl⟩

/-- StickyFlagsStaySet: each flag set before a transaction that is not SOFT_RESET. -/
theorem witness_sticky : (∀ v, Instr.nop = .wrStatus v → v.getLsbD 4 = false) ∧ Instr.nop ≠ .softReset ∧
    Instr.nop ≠ .encBegin ∧ exec .nop { completed with cmdErr := true, bufErr := true, vDone := true } =
      .next { completed with cmdErr := true, bufErr := true, vDone := true } ∧
    exec .nop { session 0 true with encFail := true } = .next { session 0 true with encFail := true } ∧
    Inv completed ∧ completed.pktReady = true :=
  ⟨by simp, by decide, by decide, rfl, rfl, witness_completed_inv, rfl⟩

/-- ModeChangesOnlyByItsCommands: a transaction that changes the mode. -/
theorem witness_mode_change : exec .encAbort (session 0 false) =
    .next { session 0 false with mode := .idle } ∧ (session 0 false).mode ≠ Mode.idle :=
  ⟨rfl, by decide⟩

/-- BufChangesOnlyByItsWriters, BufPtrNeverWraps, ResultRegistersHaveTheirWriters,
ReadsAnswerWritesDoNot: a transaction that none of the exceptions names, with a written byte, a read
and a write. -/
theorem witness_plain_transaction : exec .rdVlen (checking [1] 0) =
      .next { checking [1] 0 with readLog := [0] } ∧
    ((checking [1] 0).buf.read 0).isSome = true ∧ htWrite (encode .rdVlen) = false ∧
    htWrite (encode .nop) = true ∧ (∀ v, Instr.rdVlen ≠ .wrBufPtr v) ∧ (∀ v, Instr.rdVlen ≠ .wrBufData v) ∧
    (∀ d, Instr.rdVlen ≠ .wrPulse d) ∧ (∀ v, Instr.rdVlen ≠ .wrVlen v) ∧ Instr.rdVlen ≠ .softReset :=
  ⟨rfl, rfl, by decide, by decide, by simp, by simp, by simp, by simp, by decide⟩

end Sys2Proof.Tests
end

/-! The step and the port (R5, R73, R74, R100, R301), the configuration as a constant of every
run (R6, R32), and a session's first PULSE under any tick ratio (R140, R143, R144). -/

namespace Sys2Proof.Machine

/-! ## What a step does -/

/-- With nothing pending the run has ended (R301; log 2). -/
theorem step_of_pending_nil {s : State} (hp : s.pending = []) : step s = .refused .noTransaction := by
  simp [step, takeEvent, hp]

/-- The platform's hard reset is a step of its own (R290). -/
theorem step_of_hardReset {s : State} {rest : List PortEvent} (hp : s.pending = .hardReset :: rest) :
    step s = .next { s with pending := rest }.hardReset := by
  simp [step, takeEvent, hp]

/-- An access that keeps the protocol is performed as the transaction its word decodes to (R74, R100). -/
theorem step_of_allowed {s : State} {a : Access} {rest : List PortEvent}
    (hp : s.pending = .access a :: rest) (ha : accessAllowed a = true) :
    step s = exec (decode (accessHt a)) { s with pending := rest } := by
  simp [step, takeEvent, hp, ha]

/-- An access outside the protocol has no step (R73). -/
theorem step_of_not_allowed {s : State} {a : Access} {rest : List PortEvent}
    (hp : s.pending = .access a :: rest) (ha : accessAllowed a = false) :
    step s = .refused .portProtocol := by
  simp [step, takeEvent, hp, ha]

/-- Everything a step can do: a hard reset, or one transaction of an allowed access. -/
theorem step_cases {s t : State} (h : step s = .next t) :
    (∃ rest, s.pending = .hardReset :: rest ∧ t = { s with pending := rest }.hardReset) ∨
    (∃ a rest, s.pending = .access a :: rest ∧ accessAllowed a = true ∧
      exec (decode (accessHt a)) { s with pending := rest } = .next t) := by
  match hp : s.pending with
  | [] => cases (step_of_pending_nil hp).symm.trans h
  | .hardReset :: rest => exact .inl ⟨rest, rfl, next_inj ((step_of_hardReset hp).symm.trans h)⟩
  | .access a :: rest =>
    cases ha : accessAllowed a with
    | true => exact .inr ⟨a, rest, rfl, ha, (step_of_allowed hp ha).symm.trans h⟩
    | false => cases (step_of_not_allowed hp ha).symm.trans h

/-! ## The access of an HT word -/

/-- The port protocol in numerals: the four conditions of R73. -/
theorem accessAllowed_iff {a : Access} : accessAllowed a = true ↔
    a.width = 32 ∧ a.offset % 4 = 0 ∧ a.offset < 0x40 ∧ a.enables = 0b1111 := by
  simp [accessAllowed, and_assoc]

/-- The access of an HT word keeps the port protocol: `4 * WIDX` is a multiple of 4 below 0x40 (R73, R100). -/
theorem accessAllowed_accessOfHt (w : HT) : accessAllowed (accessOfHt w) = true := by
  have hwidx := (htWidx w).isLt
  exact accessAllowed_iff.mpr ⟨rfl, Nat.mul_mod_right 4 _, Nat.mul_lt_mul_of_pos_left hwidx (by decide), rfl⟩

/-- The access of an HT word becomes that word (R100). -/
theorem accessHt_accessOfHt (w : HT) : accessHt (accessOfHt w) = w := by
  simp [accessHt, accessOfHt, htWord_fields]

theorem accessOfTableWord_of_lt {w : Nat} (hw : w < 2 ^ 37) :
    accessOfTableWord w = accessOfHt (BitVec.ofNat 37 w) := if_pos hw

/-- The word put in front of the pending events is the very next transaction (R74; log 1). -/
theorem step_withFetchWord (s : State) (n : Nat) {w : Nat} (hw : w < 2 ^ 37) :
    step (s.withFetchWord n w) = exec (decode (BitVec.ofNat 37 w)) s := by
  rw [State.withFetchWord, accessOfTableWord_of_lt hw, step_of_allowed rfl (accessAllowed_accessOfHt _),
    accessHt_accessOfHt]
  rfl

/-- Settles O6: the step's equation for an allowed access, the round trip of an HT word through its access,
and both together for the word put in front. -/
theorem stepRunsTheDecodedTransaction : Obligations.StepRunsTheDecodedTransaction :=
  ⟨fun _ _ _ hp ha => step_of_allowed hp ha,
    fun w => ⟨accessAllowed_accessOfHt w, accessHt_accessOfHt w⟩,
    fun s n _ hw => step_withFetchWord s n hw⟩

/-- Settles O8, by the step's equation for an empty list of events. -/
theorem noStepWithoutAnEvent : Obligations.NoStepWithoutAnEvent :=
  fun _ hp => step_of_pending_nil hp

/-! ## The configuration is constant -/

section ConfigConstant
variable {v : Word} {s t : State}

theorem execRdBufData_config (h : execRdBufData s = .next t) : t.config = s.config := by
  obtain ⟨-, rfl⟩ | ⟨-, rfl⟩ := execRdBufData_cases h <;> simp

theorem execEncBegin_config (h : execEncBegin s = .next t) : t.config = s.config := by
  obtain ⟨-, rfl⟩ | ⟨-, rfl⟩ := execEncBegin_cases h <;> rfl

theorem execEncEnd_config (h : execEncEnd s = .next t) : t.config = s.config := by
  obtain ⟨-, rfl⟩ | ⟨-, -, rfl⟩ | ⟨-, -, rfl⟩ := execEncEnd_cases h <;> rfl

theorem execEncAbort_config (h : execEncAbort s = .next t) : t.config = s.config := by
  obtain ⟨-, rfl⟩ | ⟨-, rfl⟩ := execEncAbort_cases h <;> rfl

theorem execValidate_config (h : execValidate s = .next t) : t.config = s.config := by
  obtain ⟨-, rfl⟩ | ⟨-, -, rfl⟩ | ⟨-, -, rfl⟩ := execValidate_cases h <;> simp [State.afterHeaderRead]

theorem execWrPulse_config (h : execWrPulse v s = .next t) : t.config = s.config := by
  obtain ⟨-, rfl⟩ | ⟨-, -, rfl⟩ | ⟨-, -, -, rfl⟩ | ⟨-, -, -, rfl⟩ := execWrPulse_cases h <;> rfl

theorem execWrBufData_config (h : execWrBufData v s = .next t) : t.config = s.config := by
  obtain ⟨-, rfl⟩ | ⟨-, -, rfl⟩ | ⟨-, -, rfl⟩ := execWrBufData_cases h <;> rfl

/-- No transaction changes the configuration (R6, R32): the seven with more than one outcome by their
cases, every other one by its single named update. -/
theorem exec_config {i : Instr} (h : exec i s = .next t) : t.config = s.config := by
  cases i with
  | rdBufData => exact execRdBufData_config h
  | encBegin => exact execEncBegin_config h
  | encEnd => exact execEncEnd_config h
  | encAbort => exact execEncAbort_config h
  | validate => exact execValidate_config h
  | wrPulse v => exact execWrPulse_config h
  | wrBufData v => exact execWrBufData_config h
  | _ => cases h; rfl

/-- No step changes the configuration, the hard reset's included (R6, R32). -/
theorem step_config (h : step s = .next t) : t.config = s.config := by
  obtain ⟨rest, -, rfl⟩ | ⟨a, rest, -, -, he⟩ := step_cases h
  · rfl
  · exact (exec_config he :)

end ConfigConstant

/-- Settles O55: the defaults by definition, constancy over `exec` and over `step`. -/
theorem configurationNeverChanges : Obligations.ConfigurationNeverChanges :=
  ⟨rfl, rfl, rfl, fun _ _ _ h => exec_config h, fun _ _ h => step_config h⟩

/-! ## A first PULSE under any tick ratio -/

/-- A transaction that answers a next state hands it to the rest of the list (R74). -/
theorem execAll_cons_of_next {i : Instr} {is : List Instr} {s t : State} (h : exec i s = .next t) :
    execAll (i :: is) s = execAll is t := by
  simp only [execAll, h]

/-- The bytes just written lie in BUF where they were written. -/
theorem holds_writeBytes (m : Memory) (a : Nat) (bs : List Byte) : Holds (m.writeBytes a bs) a bs :=
  fun _ hk => Memory.read_writeBytes_inside m a bs hk

/-- The state after ENC_BEGIN in mode IDLE (R143). -/
def State.begun (s : State) : State :=
  s.beginSession.setBuf (s.buf.writeBytes 0 [0#8, 0#8, 0#8, 0#8])

@[simp] theorem State.begun_config (s : State) : s.begun.config = s.config := rfl
@[simp] theorem State.begun_paylen_toNat (s : State) : s.begun.paylen.toNat = 0 := rfl

theorem exec_encBegin_idle {s : State} (hm : s.mode = .idle) : exec .encBegin s = .next s.begun :=
  execEncBegin_idle hm

/-- The state after a PULSE that fits in a session: its tick in LASTTICK, its element appended (R144). -/
def State.afterPulse (d : Word) (s : State) : State :=
  ((s.setLasttick (scale s.config d)).setBuf
    (s.buf.writeBytes (4 + s.paylen.toNat) (pack (scale s.config d)))).accept (pack (scale s.config d))

@[simp] theorem State.afterPulse_config (d : Word) (s : State) : (s.afterPulse d).config = s.config := rfl
@[simp] theorem State.afterPulse_lasttick (d : Word) (s : State) :
    (s.afterPulse d).lasttick = scale s.config d := rfl

section Pulse
variable {d : Word} {s : State}

/-- The payload grows by the element, without wrapping (R34, R144). -/
theorem State.afterPulse_paylen_toNat (hf : s.paylen.toNat + (pack (scale s.config d)).length ≤ 65535) :
    (s.afterPulse d).paylen.toNat = s.paylen.toNat + (pack (scale s.config d)).length :=
  accept_paylen_toNat hf

/-- The element lies right after the payload that was there (R144). -/
theorem State.afterPulse_holds :
    Holds (s.afterPulse d).buf (4 + s.paylen.toNat) (pack (scale s.config d)) :=
  holds_writeBytes _ _ _

/-- WR_PULSE in a session that has room for its element (R144). -/
theorem exec_wrPulse_fits (hm : s.mode = .encoding) (ho : s.ovf = false)
    (hf : s.paylen.toNat + (pack (scale s.config d)).length ≤ 65535) :
    exec (.wrPulse d) s = .next (s.afterPulse d) :=
  (execWrPulse_live hm ho).trans (appendElement_fits (s := s.setLasttick (scale s.config d)) hf)

/-- The first element of a session always fits: it has at most 3 bytes (R107, R144). -/
theorem first_element_fits :
    s.begun.paylen.toNat + (pack (scale s.begun.config d)).length ≤ 65535 := by
  have := pack_length_le (scale s.begun.config d)
  rw [State.begun_paylen_toNat]
  omega

theorem execAll_encBegin_wrPulse (hm : s.mode = .idle) :
    execAll [.encBegin, .wrPulse d] s = .next (s.begun.afterPulse d) := by
  rw [execAll_cons_of_next (exec_encBegin_idle hm),
    execAll_cons_of_next (exec_wrPulse_fits rfl rfl first_element_fits)]
  rfl

end Pulse

/-- Settles O56: the session begins empty, so its first element fits and lies at BUF[4]. -/
theorem everyTickRatioRuns : Obligations.EveryTickRatioRuns := by
  intro c d
  refine ⟨(State.resetWith c).begun.afterPulse d, execAll_encBegin_wrPulse rfl, by simp, ?_, ?_, ?_⟩
  · exact scale_toNat c d
  · simpa using State.afterPulse_paylen_toNat (first_element_fits (s := State.resetWith c) (d := d))
  · simpa using State.afterPulse_holds (s := (State.resetWith c).begun) (d := d)

end Sys2Proof.Machine

/-! Everything one transaction can do, said once (`Effect`); and from it the rules of R33's state: the
invariant over every step, the writers of each flag and register, and what the registers show. -/

namespace Sys2Proof.Machine

/-! ## What a transaction can do -/

/-- The reads without side effect (spec/42_host_access.md section 2, R240): all but BUF_DATA. -/
def readsRegister : Instr → Bool
  | .rdId | .rdCtrl | .rdStatus | .rdPulse | .rdPaylen | .rdPktlen | .rdPcount | .rdLasttick
  | .rdVlen | .rdVresult | .rdBufPtr | .rdRsvd _ => true
  | _ => false

/-- NOP and the writes that their register ignores (R220, R238, R240). -/
def changesNothing : Instr → Bool
  | .nop | .wrId _ | .wrPaylen _ | .wrPktlen _ | .wrPcount _ | .wrLasttick _ | .wrVresult _
  | .wrRsvd _ _ => true
  | _ => false

/-- The transactions that are refused in a session (R143, R191, R233, R260). -/
def needsIdle : Instr → Bool
  | .encBegin | .validate | .wrBufData _ => true
  | _ => false

/-- The transactions that are refused outside a session (R144 to R146, R260). -/
def needsSession : Instr → Bool
  | .encEnd | .encAbort | .wrPulse _ => true
  | _ => false

/-- The state with `n` draws consumed so far (R9). -/
def State.setDraws (n : Nat) (s : State) : State := { s with draws := n }

/-- The state after an ENC_END that completes the packet (R145). -/
def State.packetWritten (s : State) : State :=
  (s.setBuf ((s.buf.writeBytes 0 (header s.paylen)).writeBytes (4 + s.paylen.toNat)
    (padding (4 + s.paylen.toNat)))).finishSession (ceil16 (4 + s.paylen.toNat))

/-- `Effect s i t`: with which guard the transaction `i` takes the state `s` to `t`. -/
inductive Effect (s : State) : Instr → State → Prop
  | answered {i v} (hi : readsRegister i = true) : Effect s i (s.answer v)
  | skipped {i} (hi : changesNothing i = true) : Effect s i s
  | refusedInSession {i} (hm : s.mode = .encoding) (hi : needsIdle i = true) : Effect s i s.setCmdErr
  | refusedIdle {i} (hm : s.mode = .idle) (hi : needsSession i = true) : Effect s i s.setCmdErr
  | illegalCommand {v} : Effect s (.wrCtrlIllegal v) s.setCmdErr
  | softReset : Effect s .softReset s.softReset
  | errorsCleared {v} : Effect s (.wrStatus v) (s.clearErrors v)
  | vlenSet {v} : Effect s (.wrVlen v) (s.setVlen v)
  | bufPtrSet {v} : Effect s (.wrBufPtr v) (s.setBufPtr v)
  | windowRead (hp : s.bufPtr.toNat < 65552) : Effect s .rdBufData
      ((s.setDraws (s.afterRead s.bufPtr.toNat).draws).advancePtr.answer (zext32 (s.byteAt s.bufPtr.toNat)))
  | windowReadBeyond (hp : 65552 ≤ s.bufPtr.toNat) : Effect s .rdBufData (s.setBufErr.answer 0)
  | windowWrite {v} (hm : s.mode = .idle) (hp : s.bufPtr.toNat < 65552) : Effect s (.wrBufData v)
      (s.setBuf (s.buf.write s.bufPtr.toNat (bufDataOperand v))).advancePtr
  | windowWriteBeyond {v} (hm : s.mode = .idle) (hp : 65552 ≤ s.bufPtr.toNat) :
      Effect s (.wrBufData v) s.setBufErr
  | begun (hm : s.mode = .idle) : Effect s .encBegin s.begun
  | pulseDropped {d} (hm : s.mode = .encoding) (ho : s.ovf = true) :
      Effect s (.wrPulse d) (s.setLasttick (scale s.config d))
  | pulseOverflows {d} (hm : s.mode = .encoding) (ho : s.ovf = false)
      (hf : 65535 < s.paylen.toNat + (pack (scale s.config d)).length) :
      Effect s (.wrPulse d) (s.setLasttick (scale s.config d)).setOvf
  | pulseAppended {d} (hm : s.mode = .encoding) (ho : s.ovf = false)
      (hf : s.paylen.toNat + (pack (scale s.config d)).length ≤ 65535) :
      Effect s (.wrPulse d) (s.afterPulse d)
  | sessionFailed (hm : s.mode = .encoding) (ho : s.ovf = true) : Effect s .encEnd s.failSession
  | packetWritten (hm : s.mode = .encoding) (ho : s.ovf = false) : Effect s .encEnd s.packetWritten
  | aborted (hm : s.mode = .encoding) : Effect s .encAbort s.abortSession
  | shortChecked (hm : s.mode = .idle) (hn : s.vlen.toNat < 4) :
      Effect s .validate (s.setVerdict (checkPacket s.vlen.toNat 0 0 0))
  | headerChecked (hm : s.mode = .idle) (hn : 4 ≤ s.vlen.toNat) : Effect s .validate
      ((s.setDraws s.afterHeaderRead.draws).setVerdict (checkPacket s.vlen.toNat (s.byteAt 0)
        ((s.afterRead 0).byteAt 2) (((s.afterRead 0).afterRead 2).byteAt 3)))

/-- A read of BUF changes nothing but the count of draws (R72). -/
theorem State.setDraws_afterRead (n a : Nat) (s : State) : (s.afterRead a).setDraws n = s.setDraws n := by
  unfold State.afterRead; split <;> rfl

theorem State.afterRead_eq_setDraws (a : Nat) (s : State) :
    s.afterRead a = s.setDraws (s.afterRead a).draws :=
  State.setDraws_afterRead (s.afterRead a).draws a s

/-- The three reads of VALIDATE change nothing else either (R191). -/
theorem State.afterHeaderRead_eq_setDraws (s : State) :
    s.afterHeaderRead = s.setDraws s.afterHeaderRead.draws :=
  calc s.afterHeaderRead
    _ = s.afterHeaderRead.setDraws s.afterHeaderRead.draws := rfl
    _ = s.setDraws s.afterHeaderRead.draws := by
      simp only [State.afterHeaderRead, State.setDraws_afterRead]

/-- A transaction that answers a next state does what `Effect` says: every rule over all transactions
follows by cases on it. -/
theorem exec_effect {i : Instr} {s t : State} (h : exec i s = .next t) : Effect s i t := by
  cases i with
  | rdId | rdCtrl | rdStatus | rdPulse | rdPaylen | rdPktlen | rdPcount | rdLasttick | rdVlen
  | rdVresult | rdBufPtr | rdRsvd k => cases h; exact .answered rfl
  | wrCtrlIllegal v => cases h; exact .illegalCommand
  | softReset => cases h; exact .softReset
  | wrStatus v => cases h; exact .errorsCleared
  | wrVlen v => cases h; exact .vlenSet
  | wrBufPtr v => cases h; exact .bufPtrSet
  | rdBufData =>
    obtain ⟨hp, rfl⟩ | ⟨hp, rfl⟩ := execRdBufData_cases h
    · rw [State.afterRead_eq_setDraws]; exact .windowRead hp
    · exact .windowReadBeyond hp
  | wrBufData v =>
    obtain ⟨hm, rfl⟩ | ⟨hm, hp, rfl⟩ | ⟨hm, hp, rfl⟩ := execWrBufData_cases h
    · exact .refusedInSession hm rfl
    · exact .windowWrite hm hp
    · exact .windowWriteBeyond hm hp
  | encBegin =>
    obtain ⟨hm, rfl⟩ | ⟨hm, rfl⟩ := execEncBegin_cases h
    · exact .refusedInSession hm rfl
    · exact .begun hm
  | wrPulse d =>
    obtain ⟨hm, rfl⟩ | ⟨hm, ho, rfl⟩ | ⟨hm, ho, hf, rfl⟩ | ⟨hm, ho, hf, rfl⟩ := execWrPulse_cases h
    · exact .refusedIdle hm rfl
    · exact .pulseDropped hm ho
    · exact .pulseOverflows hm ho hf
    · exact .pulseAppended hm ho hf
  | encEnd =>
    obtain ⟨hm, rfl⟩ | ⟨hm, ho, rfl⟩ | ⟨hm, ho, rfl⟩ := execEncEnd_cases h
    · exact .refusedIdle hm rfl
    · exact .sessionFailed hm ho
    · exact .packetWritten hm ho
  | encAbort =>
    obtain ⟨hm, rfl⟩ | ⟨hm, rfl⟩ := execEncAbort_cases h
    · exact .refusedIdle hm rfl
    · exact .aborted hm
  | validate =>
    obtain ⟨hm, rfl⟩ | ⟨hm, hn, rfl⟩ | ⟨hm, hn, rfl⟩ := execValidate_cases h
    · exact .refusedInSession hm rfl
    · exact .shortChecked hm hn
    · rw [State.afterHeaderRead_eq_setDraws]; exact .headerChecked hm hn
  | nop | wrId v | wrPaylen v | wrPktlen v | wrPcount v | wrLasttick v | wrVresult v | wrRsvd k v =>
    cases h; exact .skipped rfl

/-! ## The invariant -/

/-- The invariant speaks of no other element: any change to these nine keeps it. -/
theorem Inv.frame {s : State} (hs : Inv s) {c : Config} {tick : Tick} {ce be : Bool} {n p : Word}
    {draws : Nat} {events : List PortEvent} {log : List Word} :
    Inv { s with config := c, lasttick := tick, cmdErr := ce, bufErr := be, vlen := n, bufPtr := p,
                 draws := draws, pending := events, readLog := log } :=
  { hs with }

section Invariant
variable {s t : State}

/-- In a session PKTLEN is 0, since no packet is ready (R143, R224). -/
theorem Inv.pktlen_encoding (hs : Inv s) (hm : s.mode = .encoding) : s.pktlen.toNat = 0 := by
  by_contra hn
  have hr := hs.readyIff.mpr hn
  rw [hs.encodingNotReady hm] at hr
  cases hr

/-- With every element but BUF at its reset value, only the canonical form of BUF is left to hold. -/
theorem inv_softReset_setBuf {m : Memory} (hw : m.wf = true) : Inv (s.softReset.setBuf m) where
  bufWf := hw
  countLe := Nat.le_refl 0
  pktlenEq := .inl rfl
  readyIff := by simp
  encodingNotReady := fun _ => rfl
  encodingNotFailed := fun _ => rfl
  failedOvf := by simp
  ovfNotReady := fun _ => rfl
  encodingHeader := by simp
  verdict := by simp
  noVerdict := fun _ => rfl

theorem inv_hardReset (s : State) : Inv s.hardReset := inv_softReset_setBuf rfl

theorem Inv.softReset (hs : Inv s) : Inv s.softReset := inv_softReset_setBuf hs.bufWf

/-- Outside a session BUF is held to its canonical form only. -/
theorem Inv.setBuf_idle (hs : Inv s) (hm : s.mode = .idle) {m : Memory} (hw : m.wf = true) :
    Inv (s.setBuf m) :=
  { hs with
    bufWf := hw
    encodingHeader := by simp [hm] }

/-- ENC_BEGIN clears the header and the counts of the session it begins (R143). -/
theorem Inv.begun (hs : Inv s) : Inv s.begun :=
  { hs with
    bufWf := Memory.wf_writeBytes (by simp) hs.bufWf
    countLe := Nat.le_refl 0
    pktlenEq := .inl rfl
    readyIff := by simp [State.begun]
    encodingNotReady := fun _ => rfl
    encodingNotFailed := fun _ => rfl
    failedOvf := id
    ovfNotReady := fun _ => rfl
    encodingHeader := fun _ a ha => (read_clearedHeader s.buf a).trans (if_pos ha) }

/-- An overflow comes up in a session only, where no packet is ready (R144, R224). -/
theorem Inv.setOvf (hs : Inv s) (hm : s.mode = .encoding) : Inv s.setOvf :=
  { hs with
    failedOvf := fun _ => rfl
    ovfNotReady := fun _ => hs.encodingNotReady hm }

/-- An accepted duration adds one to PCOUNT and at least one to PAYLEN, and its element lies above the
header (R36, R144). -/
theorem Inv.afterPulse (hs : Inv s) (hm : s.mode = .encoding) {d : Word}
    (hf : s.paylen.toNat + (pack (scale s.config d)).length ≤ 65535) : Inv (s.afterPulse d) :=
  { hs with
    bufWf := Memory.wf_writeBytes (by rw [Config.bufSize_eq]; omega) hs.bufWf
    countLe := by
      have hle := hs.countLe
      have hpos := pack_length_pos (scale s.config d)
      have hcount : (s.afterPulse d).pcount.toNat ≤ s.pcount.toNat + 1 := Nat.mod_le _ _
      rw [State.afterPulse_paylen_toNat hf]
      omega
    pktlenEq := .inl (hs.pktlen_encoding hm)
    encodingHeader := fun _ a ha =>
      (Memory.read_writeBytes_outside _ _ _ (.inl (Nat.lt_add_right _ ha))).trans
        (hs.encodingHeader hm a ha) }

/-- A session that closes with no packet (R145, R146, R262). -/
theorem Inv.abortSession (hs : Inv s) : Inv s.abortSession :=
  { hs with
    pktlenEq := .inl rfl
    readyIff := by simp
    encodingNotReady := fun _ => rfl
    encodingNotFailed := by simp
    ovfNotReady := fun _ => rfl
    encodingHeader := by simp }

/-- A failed session is one abandoned with ENC_FAIL, which goes with OVF (R40, R145). -/
theorem Inv.failSession (hs : Inv s) (ho : s.ovf = true) : Inv s.failSession :=
  { hs.abortSession with
    encodingNotFailed := by simp
    failedOvf := fun _ => ho }

/-- Header and padding lie in BUF, and PKTLEN is the length of the packet (R37, R71, R145). -/
theorem Inv.packetWritten (hs : Inv s) (hm : s.mode = .encoding) (ho : s.ovf = false) :
    Inv s.packetWritten :=
  have hlen : s.packetWritten.pktlen.toNat = ceil16 (4 + s.paylen.toNat) := pktlen_toNat s.paylen
  have hle := le_ceil16 (4 + s.paylen.toNat)
  have hbuf := ceil16_header_le s.paylen
  { hs with
    bufWf := Memory.wf_writeBytes (by rw [padding_length, Config.bufSize_eq]; omega)
      (Memory.wf_writeBytes (by simp) hs.bufWf)
    pktlenEq := .inr hlen
    readyIff := ⟨fun _ => by omega, fun _ => rfl⟩
    encodingNotReady := fun h => by cases h
    encodingNotFailed := fun h => by cases h
    failedOvf := fun h => by cases (hs.encodingNotFailed hm).symm.trans h
    ovfNotReady := fun h => by cases ho.symm.trans h
    encodingHeader := fun h => by cases h }

/-- VALID is made from the four check bits (R49, R190). -/
theorem Inv.setVerdict (hs : Inv s) (n : Nat) (b0 b2 b3 : Byte) :
    Inv (s.setVerdict (checkPacket n b0 b2 b3)) :=
  { hs with
    verdict := fun _ => verdictBits_agree n b0 b2 b3
    noVerdict := by simp }

/-- Every transaction keeps the invariant. -/
theorem Inv.exec {i : Instr} (hs : Inv s) (h : exec i s = .next t) : Inv t := by
  cases exec_effect h with
  | softReset => exact hs.softReset
  | windowWrite hm hp => exact (hs.setBuf_idle hm (Memory.wf_write _ hp hs.bufWf)).frame
  | begun hm => exact hs.begun
  | pulseOverflows hm ho hf => exact hs.frame.setOvf hm
  | pulseAppended hm ho hf => exact hs.afterPulse hm hf
  | sessionFailed hm ho => exact hs.failSession ho
  | packetWritten hm ho => exact hs.packetWritten hm ho
  | aborted hm => exact hs.abortSession
  | shortChecked hm hn => exact hs.setVerdict _ _ _ _
  | headerChecked hm hn => exact hs.frame.setVerdict _ _ _ _
  | _ => exact hs.frame

/-- Every step keeps the invariant: a hard reset sets it up, a transaction keeps it. -/
theorem Inv.step (hs : Inv s) (h : step s = .next t) : Inv t := by
  obtain ⟨rest, -, rfl⟩ | ⟨a, rest, -, -, he⟩ := step_cases h
  · exact inv_hardReset _
  · exact hs.frame.exec he

end Invariant

/-- Settles O13: the invariant goes through each effect of a transaction, and a hard reset sets it up. -/
theorem stepKeepsTheInvariant : Obligations.StepKeepsTheInvariant :=
  fun _ _ hs h => hs.step h

/-- Settles O12: State.reset is its own hard reset. -/
theorem resetMeetsTheInvariant : Obligations.ResetMeetsTheInvariant :=
  ⟨inv_hardReset State.reset, inv_hardReset⟩

/-! ## The writers of each flag and register -/

section Writers
variable {i : Instr} {s t : State}

/-- `buf_ptr + 1` does not wrap below BUF_SIZE (R44). -/
theorem State.advancePtr_bufPtr_toNat (hp : s.bufPtr.toNat < 65552) :
    s.advancePtr.bufPtr.toNat = s.bufPtr.toNat + 1 := by
  rw [State.advancePtr_bufPtr]; bv_omega

theorem cmdErr_of_exec (h : exec i s = .next t) (hr : i ≠ .softReset)
    (hw : ∀ v, i = .wrStatus v → v.getLsbD 4 = false) (hf : s.cmdErr = true) : t.cmdErr = true := by
  cases exec_effect h with
  | softReset => exact absurd rfl hr
  | errorsCleared => rw [State.clearErrors_cmdErr, clearsCmdErr, hf, hw _ rfl]; rfl
  | refusedInSession | refusedIdle | illegalCommand => rfl
  | _ => exact hf

theorem bufErr_of_exec (h : exec i s = .next t) (hr : i ≠ .softReset)
    (hw : ∀ v, i = .wrStatus v → v.getLsbD 5 = false) (hf : s.bufErr = true) : t.bufErr = true := by
  cases exec_effect h with
  | softReset => exact absurd rfl hr
  | errorsCleared => rw [State.clearErrors_bufErr, clearsBufErr, hf, hw _ rfl]; rfl
  | windowReadBeyond | windowWriteBeyond => rfl
  | _ => exact hf

theorem ovf_of_exec (h : exec i s = .next t) (hr : i ≠ .softReset) (hb : i ≠ .encBegin)
    (hf : s.ovf = true) : t.ovf = true := by
  cases exec_effect h with
  | softReset => exact absurd rfl hr
  | begun => exact absurd rfl hb
  | pulseOverflows => rfl
  | _ => exact hf

theorem encFail_of_exec (h : exec i s = .next t) (hr : i ≠ .softReset) (hb : i ≠ .encBegin)
    (hf : s.encFail = true) : t.encFail = true := by
  cases exec_effect h with
  | softReset => exact absurd rfl hr
  | begun => exact absurd rfl hb
  | sessionFailed => rfl
  | _ => exact hf

theorem vDone_of_exec (h : exec i s = .next t) (hr : i ≠ .softReset) (hf : s.vDone = true) :
    t.vDone = true := by
  cases exec_effect h with
  | softReset => exact absurd rfl hr
  | shortChecked | headerChecked => rfl
  | _ => exact hf

/-- ENC_ABORT and a failing ENC_END clear PKT_READY too, but they run in a session, where the invariant
has it clear (R224). -/
theorem pktReady_of_exec (h : exec i s = .next t) (hs : Inv s) (hr : i ≠ .softReset) (hb : i ≠ .encBegin)
    (hf : s.pktReady = true) : t.pktReady = true := by
  cases exec_effect h with
  | softReset => exact absurd rfl hr
  | begun => exact absurd rfl hb
  | packetWritten => rfl
  | sessionFailed hm | aborted hm => cases (hs.encodingNotReady hm).symm.trans hf
  | _ => exact hf

theorem vres_of_exec (h : exec i s = .next t) (hr : i ≠ .softReset) (hv : i ≠ .validate) :
    t.vres = s.vres := by
  cases exec_effect h with
  | softReset => exact absurd rfl hr
  | shortChecked | headerChecked => exact absurd rfl hv
  | _ => rfl

theorem vlen_of_exec (h : exec i s = .next t) (hr : i ≠ .softReset) (hv : ∀ v, i ≠ .wrVlen v) :
    t.vlen = s.vlen := by
  cases exec_effect h with
  | softReset => exact absurd rfl hr
  | vlenSet => exact absurd rfl (hv _)
  | _ => rfl

theorem pktlen_of_exec (h : exec i s = .next t) (hr : i ≠ .softReset) (hb : i ≠ .encBegin)
    (he : i ≠ .encEnd) (ha : i ≠ .encAbort) : t.pktlen = s.pktlen := by
  cases exec_effect h with
  | softReset => exact absurd rfl hr
  | begun => exact absurd rfl hb
  | sessionFailed | packetWritten => exact absurd rfl he
  | aborted => exact absurd rfl ha
  | _ => rfl

theorem counts_of_exec (h : exec i s = .next t) (hr : i ≠ .softReset) (hb : i ≠ .encBegin)
    (hp : ∀ d, i ≠ .wrPulse d) :
    t.paylen = s.paylen ∧ t.pcount = s.pcount ∧ t.lasttick = s.lasttick := by
  cases exec_effect h with
  | softReset => exact absurd rfl hr
  | begun => exact absurd rfl hb
  | pulseDropped | pulseOverflows | pulseAppended => exact absurd rfl (hp _)
  | _ => exact ⟨rfl, rfl, rfl⟩

end Writers

/-- Settles O49, flag by flag. -/
theorem stickyFlagsStaySet : Obligations.StickyFlagsStaySet :=
  fun _ _ _ h hr =>
    ⟨fun hf hw => cmdErr_of_exec h hr hw hf,
      fun hf hw => bufErr_of_exec h hr hw hf,
      fun hf hb => ovf_of_exec h hr hb hf,
      fun hf hb => encFail_of_exec h hr hb hf,
      vDone_of_exec h hr,
      fun hs hf hb => pktReady_of_exec h hs hr hb hf⟩

/-- Settles O53, register by register. -/
theorem resultRegistersHaveTheirWriters : Obligations.ResultRegistersHaveTheirWriters :=
  fun _ _ _ h hr => ⟨vres_of_exec h hr, vlen_of_exec h hr, pktlen_of_exec h hr, counts_of_exec h hr⟩

/-- Settles O50: each effect that writes `mode` is one of the four commands'. -/
theorem modeChangesOnlyByItsCommands : Obligations.ModeChangesOnlyByItsCommands := by
  intro i s t h hne
  cases exec_effect h with
  | begun => exact .inl ⟨rfl, rfl⟩
  | sessionFailed | packetWritten => exact .inr ⟨.inl rfl, rfl⟩
  | aborted => exact .inr ⟨.inr (.inl rfl), rfl⟩
  | softReset => exact .inr ⟨.inr (.inr rfl), rfl⟩
  | _ => exact absurd rfl hne

/-- Settles O52: the pointer advances with the two window accesses, which are in range. -/
theorem bufPtrNeverWraps : Obligations.BufPtrNeverWraps := by
  intro i s t h hw hr
  cases exec_effect h with
  | softReset => exact absurd rfl hr
  | bufPtrSet => exact absurd rfl (hw _)
  | windowRead hp => exact .inr ⟨hp, State.advancePtr_bufPtr_toNat hp, .inl rfl⟩
  | windowWrite hm hp => exact .inr ⟨hp, State.advancePtr_bufPtr_toNat hp, .inr ⟨_, rfl⟩⟩
  | _ => exact .inl rfl

/-! ## The registers show the whole state -/

/-- A read answers one value. -/
theorem answer_inj {s : State} {v w : Word}
    (h : (Host.Outcome.next (s.answer v) : Result) = .next (s.answer w)) : v = w := by
  simpa using congrArg State.readLog (next_inj h).symm

/-- If the read `i` answers `f` of the state, two states that answer it alike agree on `f`. -/
theorem shown_eq {i : Instr} {f : State → Word} (hi : ∀ s, exec i s = .next (s.answer (f s)))
    {s t : State} (h : ∃ v, exec i s = .next (s.answer v) ∧ exec i t = .next (t.answer v)) :
    f s = f t := by
  obtain ⟨v, hs, ht⟩ := h
  exact (answer_inj ((hi s).symm.trans hs)).trans (answer_inj ((hi t).symm.trans ht)).symm

/-- Widening to `rdata` keeps the value (R7). -/
theorem zext32_toNat {n : Nat} (hn : n ≤ 32) (x : BitVec n) : (zext32 x).toNat = x.toNat :=
  BitVec.toNat_setWidth_of_le hn

theorem zext32_inj {n : Nat} (hn : n ≤ 32) {x y : BitVec n} (h : zext32 x = zext32 y) : x = y := by
  apply BitVec.eq_of_toNat_eq
  rw [← zext32_toNat hn x, h, zext32_toNat hn y]

/-- The STATUS word, bit by bit (R40, R224). -/
theorem statusWord_bits (s : State) :
    (statusWord s).getLsbD 0 = decide (s.mode = .encoding) ∧ (statusWord s).getLsbD 1 = s.pktReady ∧
    (statusWord s).getLsbD 2 = s.encFail ∧ (statusWord s).getLsbD 3 = s.ovf ∧
    (statusWord s).getLsbD 4 = s.cmdErr ∧ (statusWord s).getLsbD 5 = s.bufErr ∧
    (statusWord s).getLsbD 6 = s.vDone := by
  simp only [statusWord, BitVec.getLsbD_setWidth, BitVec.getLsbD_append]; simp

/-- The bit ENCODING tells the two modes apart (R33, R40). -/
theorem mode_eq_of_encoding_bit {m n : Mode}
    (h : decide (m = .encoding) = decide (n = .encoding)) : m = n := by
  revert h; cases m <;> cases n <;> decide

/-- STATUS shows the mode and its six flags (R40). -/
theorem statusWord_inj {s t : State} (h : statusWord s = statusWord t) :
    s.mode = t.mode ∧ s.pktReady = t.pktReady ∧ s.encFail = t.encFail ∧ s.ovf = t.ovf ∧
      s.cmdErr = t.cmdErr ∧ s.bufErr = t.bufErr ∧ s.vDone = t.vDone := by
  have hs := statusWord_bits s
  rw [h] at hs
  obtain ⟨m0, m1, m2, m3, m4, m5, m6⟩ := hs
  obtain ⟨n0, n1, n2, n3, n4, n5, n6⟩ := statusWord_bits t
  exact ⟨mode_eq_of_encoding_bit (m0.symm.trans n0), m1.symm.trans n1, m2.symm.trans n2,
    m3.symm.trans n3, m4.symm.trans n4, m5.symm.trans n5, m6.symm.trans n6⟩

/-- Settles O20: each element of R33 but BUF stands in one of the eight words read. -/
theorem registersShowTheWholeState : Obligations.RegistersShowTheWholeState := by
  intro s t h
  have paylen := shown_eq (f := fun s => zext32 s.paylen) (fun _ => rfl) (h .rdPaylen (by simp))
  have pktlen := shown_eq (f := fun s => zext32 s.pktlen) (fun _ => rfl) (h .rdPktlen (by simp))
  have pcount := shown_eq (f := fun s => zext32 s.pcount) (fun _ => rfl) (h .rdPcount (by simp))
  have lasttick := shown_eq (f := fun s => zext32 s.lasttick) (fun _ => rfl) (h .rdLasttick (by simp))
  have vres := shown_eq (f := fun s => zext32 s.vres) (fun _ => rfl) (h .rdVresult (by simp))
  have vlen := shown_eq (f := State.vlen) (fun _ => rfl) (h .rdVlen (by simp))
  have bufPtr := shown_eq (f := State.bufPtr) (fun _ => rfl) (h .rdBufPtr (by simp))
  obtain ⟨mode, ready, fail, ovf, cmdErr, bufErr, vDone⟩ :=
    statusWord_inj (shown_eq (fun _ => rfl) (h .rdStatus (by simp)))
  rw [mode, ready, fail, ovf, cmdErr, bufErr, vDone, vlen, bufPtr, zext32_inj (by decide) paylen,
    zext32_inj (by decide) pktlen, zext32_inj (by decide) pcount, zext32_inj (by decide) lasttick,
    zext32_inj (by decide) vres]

/-! ## PULSE -/

/-- Settles O35: the outcome of PULSE in each mode, with room and without. -/
theorem pulseAppendsItsElement : Obligations.PulseAppendsItsElement := by
  intro d s
  refine ⟨execWrPulse_idle, execWrPulse_dropped, fun hm ho hf => ?_, fun hm ho hf => ?_⟩
  · exact (execWrPulse_live hm ho).trans
      (appendElement_overflow (s := s.setLasttick (scale s.config d)) hf)
  · have hlen := State.afterPulse_paylen_toNat hf
    refine ⟨s.afterPulse d, exec_wrPulse_fits hm ho hf, rfl, fun hle => ?_, hlen,
      State.afterPulse_holds, fun a ha => Memory.read_writeBytes_outside _ _ _ ha⟩
    have hpos := pack_length_pos (scale s.config d)
    have hcount : (s.afterPulse d).pcount = s.pcount + 1 := rfl
    rw [hcount]
    bv_omega

/-! ## VALIDATE on the buffered bytes -/

/-- A sequence shorter than a header is judged by its length alone (R190). -/
theorem checkPacket_of_short {n : Nat} (hn : n < 4) (b0 b2 b3 : Byte) :
    checkPacket n b0 b2 b3 = checkPacket n 0 0 0 := by
  simp [checkPacket, hn]

theorem Holds.read {m : Memory} {p : List Byte} (h : Holds m 0 p) {k : Nat} (hk : k < p.length) :
    m.read k = some (p.getD k 0) := by
  have := h k hk
  simpa [hk] using this

/-- VALIDATE computes Validate of the bytes in BUF, and draws nothing (R190, R191). -/
theorem exec_validate_of_holds {s : State} {p : List Byte} (hm : s.mode = .idle) (hp : Holds s.buf 0 p)
    (hn : s.vlen.toNat = p.length) : exec .validate s = .next (s.setVerdict (validatePacket p)) := by
  by_cases h4 : p.length < 4
  · rw [validatePacket, checkPacket_of_short h4, ← hn]
    exact execValidate_short hm (hn ▸ h4)
  · rw [validatePacket, ← hn]
    exact execValidate_written hm (hp.read (by omega)) (hp.read (by omega)) (hp.read (by omega))

/-- Settles O44: the bits of VRESULT are those of Validate, at the positions of R49. -/
theorem validateChecksTheBufferedBytes : Obligations.ValidateChecksTheBufferedBytes := by
  intro s p hm hp hn
  exact ⟨s.setVerdict (validatePacket p), exec_validate_of_holds hm hp hn, rfl, verdictBits_valid _,
    verdictBits_shortFail _, verdictBits_typeFail _, verdictBits_alignFail _, verdictBits_lenFail _⟩

end Sys2Proof.Machine

/-! The memory and the port as the host uses them (R70 to R74, R82, R84, R100): an access outside the port
protocol is refused, every transaction completes, who writes BUF, who answers and who draws, and what the
window BUF_DATA reads back. -/

namespace Sys2Proof.Machine

/-- Settles O7: each of the four reasons denies one of the four conditions of the port protocol. -/
theorem outOfProtocolAccessIsRefused : Obligations.OutOfProtocolAccessIsRefused := by
  intro s a rest hp hbad
  have hna : ¬ accessAllowed a = true := fun ha => by
    obtain ⟨hwidth, halign, hrange, henables⟩ := accessAllowed_iff.mp ha
    obtain hw | ho | hr | he := hbad
    · exact hw hwidth
    · exact ho halign
    · exact absurd hrange (Nat.not_lt.mpr hr)
    · exact he henables
  exact step_of_not_allowed hp (Bool.eq_false_of_not_eq_true hna)

/-! ## Every transaction completes -/

theorem execRdBufData_completes (s : State) : ∃ t, execRdBufData s = .next t := by
  obtain hp | hp := Nat.lt_or_ge s.bufPtr.toNat 65552
  · exact ⟨_, execRdBufData_of_lt hp⟩
  · exact ⟨_, execRdBufData_of_ge hp⟩

theorem execWrBufData_completes (v : Word) (s : State) : ∃ t, execWrBufData v s = .next t := by
  cases hm : s.mode with
  | encoding => exact ⟨_, execWrBufData_encoding hm⟩
  | idle =>
    obtain hp | hp := Nat.lt_or_ge s.bufPtr.toNat 65552
    · exact ⟨_, execWrBufData_of_lt hm hp⟩
    · exact ⟨_, execWrBufData_of_ge hm hp⟩

theorem execEncBegin_completes (s : State) : ∃ t, execEncBegin s = .next t := by
  cases hm : s.mode with
  | encoding => exact ⟨_, execEncBegin_encoding hm⟩
  | idle => exact ⟨_, execEncBegin_idle hm⟩

/-- An element that fits lies below BUF_SIZE; one that does not is never written (R71, R144). -/
theorem appendElement_completes (e : List Byte) (s : State) : ∃ t, appendElement e s = .next t := by
  obtain hf | hf := Nat.lt_or_ge 65535 (s.paylen.toNat + e.length)
  · exact ⟨_, appendElement_overflow hf⟩
  · exact ⟨_, appendElement_fits hf⟩

theorem execWrPulse_completes (d : Word) (s : State) : ∃ t, execWrPulse d s = .next t := by
  cases hm : s.mode with
  | idle => exact ⟨_, execWrPulse_idle hm⟩
  | encoding =>
    cases ho : s.ovf with
    | true => exact ⟨_, execWrPulse_dropped hm ho⟩
    | false => rw [execWrPulse_live hm ho]; exact appendElement_completes _ _

theorem execEncEnd_completes (s : State) : ∃ t, execEncEnd s = .next t := by
  cases hm : s.mode with
  | idle => exact ⟨_, execEncEnd_idle hm⟩
  | encoding =>
    cases ho : s.ovf with
    | true => exact ⟨_, execEncEnd_failed hm ho⟩
    | false => exact ⟨_, execEncEnd_live hm ho⟩

theorem execEncAbort_completes (s : State) : ∃ t, execEncAbort s = .next t := by
  cases hm : s.mode with
  | idle => exact ⟨_, execEncAbort_idle hm⟩
  | encoding => exact ⟨_, execEncAbort_encoding hm⟩

theorem execValidate_completes (s : State) : ∃ t, execValidate s = .next t := by
  cases hm : s.mode with
  | encoding => exact ⟨_, execValidate_encoding hm⟩
  | idle =>
    obtain hn | hn := Nat.lt_or_ge s.vlen.toNat 4
    · exact ⟨_, execValidate_short hm hn⟩
    · exact ⟨_, execValidate_header hm hn⟩

/-- Settles O14: the seven transactions with more than one outcome by their cases, every other one by its
single update. -/
theorem everyTransactionCompletes : Obligations.EveryTransactionCompletes := by
  intro i s
  cases i with
  | rdBufData => exact execRdBufData_completes s
  | encBegin => exact execEncBegin_completes s
  | encEnd => exact execEncEnd_completes s
  | encAbort => exact execEncAbort_completes s
  | validate => exact execValidate_completes s
  | wrPulse d => exact execWrPulse_completes d s
  | wrBufData v => exact execWrBufData_completes v s
  | _ => exact ⟨_, rfl⟩

/-! ## The writers of BUF -/

/-- A write makes no byte unwritten (R72). -/
theorem Memory.read_write_isSome {m : Memory} {b : Nat} (h : (m.read b).isSome = true) (a : Nat) (v : Byte) :
    ((m.write a v).read b).isSome = true := by
  by_cases hb : b = a
  · rw [hb, Memory.read_write_same]; rfl
  · rw [Memory.read_write_other m v hb]; exact h

/-- A write of several bytes makes no byte unwritten (R72). -/
theorem Memory.read_writeBytes_isSome {m : Memory} {b : Nat} (h : (m.read b).isSome = true) (a : Nat)
    (bs : List Byte) : ((m.writeBytes a bs).read b).isSome = true := by
  induction bs generalizing m a with
  | nil => exact h
  | cons v bs ih => exact ih (Memory.read_write_isSome h a v) (a + 1)

section BufWriters
variable {i : Instr} {s t : State}

/-- No transaction but WR_BUF_DATA, ENC_BEGIN, PULSE and ENC_END writes BUF (R70(b)). -/
theorem buf_of_exec (h : exec i s = .next t) (hw : ∀ v, i ≠ .wrBufData v) (hb : i ≠ .encBegin)
    (hp : ∀ d, i ≠ .wrPulse d) (he : i ≠ .encEnd) : t.buf = s.buf := by
  cases exec_effect h with
  | windowWrite => exact absurd rfl (hw _)
  | begun => exact absurd rfl hb
  | pulseAppended => exact absurd rfl (hp _)
  | packetWritten => exact absurd rfl he
  | _ => rfl

/-- No transaction makes a written byte unwritten (R72). -/
theorem written_of_exec (h : exec i s = .next t) {a : Nat} (ha : (s.buf.read a).isSome = true) :
    (t.buf.read a).isSome = true := by
  cases exec_effect h with
  | windowWrite => exact Memory.read_write_isSome ha _ _
  | begun | pulseAppended => exact Memory.read_writeBytes_isSome ha _ _
  | packetWritten => exact Memory.read_writeBytes_isSome (Memory.read_writeBytes_isSome ha _ _) _ _
  | _ => exact ha

end BufWriters

/-- Settles O51: BUF's writers, and what they keep written. -/
theorem bufChangesOnlyByItsWriters : Obligations.BufChangesOnlyByItsWriters :=
  fun _ _ _ h => ⟨buf_of_exec h, fun _ ha => written_of_exec h ha⟩

/-! ## Answers and draws -/

/-- A transaction is a read exactly if it reads a register or the window BUF_DATA (R100, R101). -/
theorem htWrite_encode_eq_false_iff {i : Instr} :
    htWrite (encode i) = false ↔ readsRegister i = true ∨ i = .rdBufData := by
  cases i <;> simp [encode, encodeRead, encodeWrite, encodeCommand, readsRegister]

/-- Reading a byte consumes a draw or none (R72). -/
theorem State.draws_le_afterRead (a : Nat) (s : State) : s.draws ≤ (s.afterRead a).draws := by
  unfold State.afterRead; split
  · exact Nat.le_succ _
  · exact Nat.le_refl _

theorem State.draws_le_afterHeaderRead (s : State) : s.draws ≤ s.afterHeaderRead.draws :=
  calc s.draws
    _ ≤ (s.afterRead 0).draws := State.draws_le_afterRead 0 s
    _ ≤ ((s.afterRead 0).afterRead 2).draws := State.draws_le_afterRead 2 _
    _ ≤ s.afterHeaderRead.draws := State.draws_le_afterRead 3 _

section HostSide
variable {i : Instr} {s t : State}

/-- No transaction touches the events after it (R74). -/
theorem pending_of_exec (h : exec i s = .next t) : t.pending = s.pending := by
  cases exec_effect h <;> rfl

/-- A write returns nothing (R100). -/
theorem readLog_of_exec_write (h : exec i s = .next t) (hw : htWrite (encode i) = true) :
    t.readLog = s.readLog := by
  have hi : ¬ (readsRegister i = true ∨ i = .rdBufData) := by simp [← htWrite_encode_eq_false_iff, hw]
  cases exec_effect h with
  | answered hr => exact absurd (.inl hr) hi
  | windowRead | windowReadBeyond => exact absurd (.inr rfl) hi
  | _ => rfl

/-- A read of a register without side effect answers one value and does nothing else (R240). -/
theorem exec_of_readsRegister (hi : readsRegister i = true) (s : State) :
    ∃ v, exec i s = .next (s.answer v) := by
  cases i with
  | rdId | rdCtrl | rdStatus | rdPulse | rdPaylen | rdPktlen | rdPcount | rdLasttick | rdVlen
  | rdVresult | rdBufPtr | rdRsvd k => exact ⟨_, rfl⟩
  | _ => cases hi

/-- A read returns one value (R100). -/
theorem readLog_of_exec_read (h : exec i s = .next t) (hr : htWrite (encode i) = false) :
    ∃ v, t.readLog = v :: s.readLog := by
  obtain hi | rfl := htWrite_encode_eq_false_iff.mp hr
  · obtain ⟨v, hv⟩ := exec_of_readsRegister hi s
    rw [next_inj (hv.symm.trans h)]
    exact ⟨v, rfl⟩
  · obtain ⟨-, rfl⟩ | ⟨-, rfl⟩ := execRdBufData_cases h
    · exact ⟨_, congrArg _ (State.afterRead_readLog _ s)⟩
    · exact ⟨0, rfl⟩

/-- The count of draws never goes back (R72; log 4). -/
theorem draws_le_of_exec (h : exec i s = .next t) : s.draws ≤ t.draws := by
  cases exec_effect h with
  | windowRead => exact State.draws_le_afterRead _ s
  | headerChecked => exact State.draws_le_afterHeaderRead s
  | _ => exact Nat.le_refl _

/-- No transaction but RD_BUF_DATA and VALIDATE consumes a draw (R72, R191). -/
theorem draws_of_exec (h : exec i s = .next t) (hr : i ≠ .rdBufData) (hv : i ≠ .validate) :
    t.draws = s.draws := by
  cases exec_effect h with
  | windowRead => exact absurd rfl hr
  | headerChecked => exact absurd rfl hv
  | _ => rfl

end HostSide

/-- Settles O54: the pending events, the data returned and the draws, one by one. -/
theorem readsAnswerWritesDoNot : Obligations.ReadsAnswerWritesDoNot :=
  fun _ _ _ h =>
    ⟨pending_of_exec h, readLog_of_exec_write h, readLog_of_exec_read h, draws_le_of_exec h,
      draws_of_exec h⟩

/-! ## Reading the window back -/

/-- The state once RD_BUF_DATA has returned the byte `b`, but for a draw (R232). -/
def State.afterByteRead (b : Byte) (s : State) : State := s.advancePtr.answer (zext32 b)

/-- The state after WR_BUF_DATA of the byte `b` in mode IDLE and in range (R233). -/
def State.afterByteWrite (b : Byte) (s : State) : State :=
  (s.setBuf (s.buf.write s.bufPtr.toNat b)).advancePtr

@[simp] theorem State.afterByteRead_buf (b : Byte) (s : State) : (s.afterByteRead b).buf = s.buf := rfl
@[simp] theorem State.afterByteRead_draws (b : Byte) (s : State) : (s.afterByteRead b).draws = s.draws := rfl
@[simp] theorem State.afterByteRead_readLog (b : Byte) (s : State) :
    (s.afterByteRead b).readLog = zext32 b :: s.readLog := rfl

@[simp] theorem State.afterByteWrite_buf (b : Byte) (s : State) :
    (s.afterByteWrite b).buf = s.buf.write s.bufPtr.toNat b := rfl
@[simp] theorem State.afterByteWrite_draws (b : Byte) (s : State) :
    (s.afterByteWrite b).draws = s.draws := rfl
@[simp] theorem State.afterByteWrite_readLog (b : Byte) (s : State) :
    (s.afterByteWrite b).readLog = s.readLog := rfl

/-- BUF_DATA takes DATA[7:0] (R103). -/
theorem bufDataOperand_eq (v : Word) : bufDataOperand v = v.setWidth 8 :=
  BitVec.eq_of_toNat_eq (by simp [bufDataOperand, BitVec.extractLsb'_toNat])

/-- WR_BUF_PTR in both modes and with any value (R235). -/
theorem exec_wrBufPtr (s : State) (a : Word) : exec (.wrBufPtr a) s = .next (s.setBufPtr a) := rfl

section Window
variable {s : State}

/-- A list of one transaction does what that transaction does (R74). -/
theorem execAll_singleton_of_next {i : Instr} {t : State} (h : exec i s = .next t) :
    execAll [i] s = .next t :=
  execAll_cons_of_next h

/-- RD_BUF_DATA of a written byte returns it and draws nothing (R232). -/
theorem exec_rdBufData_written {b : Byte} (hp : s.bufPtr.toNat < 65552)
    (hb : s.buf.read s.bufPtr.toNat = some b) : exec .rdBufData s = .next (s.afterByteRead b) := by
  have h := execRdBufData_of_lt hp
  rwa [State.afterRead_of_some hb, State.byteAt_of_some hb] at h

/-- RD_BUF_DATA of an unwritten byte returns the next draw and consumes it (R72, R232). -/
theorem exec_rdBufData_unwritten (hp : s.bufPtr.toNat < 65552) (hb : s.buf.read s.bufPtr.toNat = none) :
    exec .rdBufData s = .next (s.drawn.afterByteRead (Config.draw s.draws)) := by
  have h := execRdBufData_of_lt hp
  rwa [State.afterRead_of_none hb, State.byteAt_of_none hb] at h

/-- WR_BUF_DATA in mode IDLE and in range stores DATA[7:0] (R103, R233). -/
theorem exec_wrBufData_idle {v : Word} (hm : s.mode = .idle) (hp : s.bufPtr.toNat < 65552) :
    exec (.wrBufData v) s = .next (s.afterByteWrite (v.setWidth 8)) :=
  bufDataOperand_eq v ▸ execWrBufData_of_lt hm hp

end Window

/-- Settles O28: the first read leaves the byte unwritten, so the second read draws again. -/
theorem unwrittenByteDrawsAfresh : Obligations.UnwrittenByteDrawsAfresh := by
  intro s hp hb
  have hfirst := exec_rdBufData_unwritten hp hb
  have hsecond := exec_rdBufData_unwritten
    (s := (s.drawn.afterByteRead (Config.draw s.draws)).setBufPtr s.bufPtr) hp hb
  have hrun := (execAll_cons_of_next hfirst).trans
    ((execAll_cons_of_next (exec_wrBufPtr _ s.bufPtr)).trans (execAll_singleton_of_next hsecond))
  exact ⟨_, hrun, by simp [zext32], by simp, by simp⟩

/-- Settles O29: the byte just written is the one the second pointer write selects. -/
theorem writtenByteIsReadBack : Obligations.WrittenByteIsReadBack := by
  intro s a v hm ha
  have hwrite := exec_wrBufData_idle (s := s.setBufPtr a) (v := v) hm ha
  have hread := exec_rdBufData_written
    (s := ((s.setBufPtr a).afterByteWrite (v.setWidth 8)).setBufPtr a) ha
    (Memory.read_write_same s.buf a.toNat (v.setWidth 8))
  have hrun := (execAll_cons_of_next (exec_wrBufPtr s a)).trans
    ((execAll_cons_of_next hwrite).trans
      ((execAll_cons_of_next (exec_wrBufPtr _ a)).trans (execAll_singleton_of_next hread)))
  exact ⟨_, hrun, by simp [zext32], by simp, fun _ hb => by simp [Memory.read_write_other, hb]⟩

end Sys2Proof.Machine

/-! Encodings (R100 to R110): the row of each word, the two round trips between words and transactions, and
the unique decoding of packed ticks. -/

namespace Sys2Proof.Machine

/-! ## The row of a word -/

/-- A read's row depends on WIDX alone (R100, R104). -/
@[simp] theorem decode_htWord_read (k : BitVec 4) (v : Word) : decode (htWord false k v) = decodeRead k := by
  simp [decode]

/-- A write's row depends on WIDX and DATA (R104). -/
@[simp] theorem decode_htWord_write (k : BitVec 4) (v : Word) :
    decode (htWord true k v) = decodeWrite k v := by
  simp [decode]

/-- Every word index is the index of a register or of a reserved offset (R101). -/
theorem exists_regWidx (k : BitVec 4) : ∃ r : Reg, regWidx r = k := by
  have hmem : k ∈ [Reg.id, .ctrl, .status, .pulse, .paylen, .pktlen, .pcount, .lasttick, .vlen, .vresult,
      .bufPtr, .bufData, .rsvd 0, .rsvd 1, .rsvd 2, .rsvd 3].map regWidx := by revert k; decide
  obtain ⟨r, -, hr⟩ := List.mem_map.mp hmem
  exact ⟨r, hr⟩

/-- A word index of 12 to 15 is the reserved offset that its low two bits name (R101). -/
theorem reservedWidx_of_ge {k : BitVec 4} (hk : 12 ≤ k.toNat) : 3#2 ++ k.setWidth 2 = k := by
  revert k; decide

theorem decodeRead_reserved (k : BitVec 2) : decodeRead (3#2 ++ k) = .rdRsvd k := by
  revert k; decide

theorem decodeWrite_reserved (k : BitVec 2) (v : Word) : decodeWrite (3#2 ++ k) v = .wrRsvd k v := by
  have hk : k = 0 ∨ k = 1 ∨ k = 2 ∨ k = 3 := by revert k; decide
  obtain rfl | rfl | rfl | rfl := hk <;> rfl

/-! ## The writes to CTRL -/

section Ctrl
variable {v : Word}

/-- A CTRL value is illegal if a reserved bit is set or its code is in 0x5 to 0xE (R105). -/
theorem ctrlIllegal_iff : ctrlIllegal v = true ↔
    ctrlReserved v ≠ 0#28 ∨ 5 ≤ (ctrlCmd v).toNat ∧ (ctrlCmd v).toNat ≤ 14 := by
  simp [ctrlIllegal]

/-- A CTRL value without a reserved bit is its command code, widened with zeros (R102). -/
theorem ctrlCmd_of_not_reserved (h : ctrlReserved v = 0#28) : 0#28 ++ ctrlCmd v = v := h ▸ ctrl_fields v

/-- A legal CTRL value is a command code of R102. -/
theorem command_of_legal (h : ¬ ctrlIllegal v = true) :
    v = 0x0 ∨ v = 0x1 ∨ v = 0x2 ∨ v = 0x3 ∨ v = 0x4 ∨ v = 0xF := by
  have hcodes : ∀ c : BitVec 4, ¬ (5 ≤ c.toNat ∧ c.toNat ≤ 14) → 0#28 ++ c = (0x0 : Word) ∨
      0#28 ++ c = (0x1 : Word) ∨ 0#28 ++ c = (0x2 : Word) ∨ 0#28 ++ c = (0x3 : Word) ∨
      0#28 ++ c = (0x4 : Word) ∨ 0#28 ++ c = (0xF : Word) := by decide
  obtain ⟨hres, hcmd⟩ := not_or.mp (mt ctrlIllegal_iff.mpr h)
  exact ctrlCmd_of_not_reserved (not_not.mp hres) ▸ hcodes (ctrlCmd v) hcmd

theorem decodeCtrl_of_illegal (h : ctrlIllegal v = true) : decodeCtrl v = .wrCtrlIllegal v := by
  have hcodes : ∀ c : BitVec 4, 5 ≤ c.toNat ∧ c.toNat ≤ 14 →
      decodeCtrl (0#28 ++ c) = .wrCtrlIllegal (0#28 ++ c) := by decide
  by_cases hres : ctrlReserved v = 0#28
  · have hcmd := (ctrlIllegal_iff.mp h).resolve_left (not_not.mpr hres)
    exact ctrlCmd_of_not_reserved hres ▸ hcodes (ctrlCmd v) hcmd
  · exact if_neg hres

/-- A CTRL write decodes to the row its value matches in full, else to WR_CTRL_ILLEGAL (R102, R104). -/
theorem decodeCtrl_eq (v : Word) : decodeCtrl v =
    if v = 0x0 then .nop else if v = 0x1 then .encBegin else if v = 0x2 then .encEnd
    else if v = 0x3 then .encAbort else if v = 0x4 then .validate else if v = 0xF then .softReset
    else .wrCtrlIllegal v := by
  by_cases h : ctrlIllegal v = true
  · have hne : ∀ c : Word, ctrlIllegal c = false → v ≠ c := fun c hc hvc => by simp [hvc, hc] at h
    rw [decodeCtrl_of_illegal h, if_neg (hne _ rfl), if_neg (hne _ rfl), if_neg (hne _ rfl),
      if_neg (hne _ rfl), if_neg (hne _ rfl), if_neg (hne _ rfl)]
  · obtain rfl | rfl | rfl | rfl | rfl | rfl := command_of_legal h <;> rfl

theorem encode_decodeCtrl (v : Word) : encode (decodeCtrl v) = encodeWrite 1 v := by
  by_cases h : ctrlIllegal v = true
  · rw [decodeCtrl_of_illegal h, encode]
  · obtain rfl | rfl | rfl | rfl | rfl | rfl := command_of_legal h <;> rfl

theorem decodeCtrl_wellFormed (v : Word) : (decodeCtrl v).wellFormed = true := by
  by_cases h : ctrlIllegal v = true
  · rw [decodeCtrl_of_illegal h]; exact h
  · obtain rfl | rfl | rfl | rfl | rfl | rfl := command_of_legal h <;> rfl

end Ctrl

/-- Settles O3: a CTRL write by its value, a reserved word index by its low bits, any other by its row. -/
theorem decodeSelectsTheRow : Obligations.DecodeSelectsTheRow := by
  refine ⟨fun v => (decode_htWord_write 1 v).trans (decodeCtrl_eq v), fun k v hk => ?_, fun v => ?_⟩
  · rw [← reservedWidx_of_ge hk, decode_htWord_read, decode_htWord_write, decodeRead_reserved,
      decodeWrite_reserved, reservedWidx_of_ge hk]
    exact ⟨rfl, rfl⟩
  · simp [decodeRead, decodeWrite]

/-! ## The round trips -/

/-- The encoder of a row is undone by the decoder's choice of that row (R100, R104). -/
theorem decode_encode {i : Instr} (hi : i.wellFormed = true) : decode (encode i) = i := by
  cases i with
  | wrCtrlIllegal v => exact (decode_htWord_write 1 v).trans (decodeCtrl_of_illegal hi)
  | rdRsvd k => exact (decode_htWord_read _ 0).trans (decodeRead_reserved k)
  | wrRsvd k v => exact (decode_htWord_write _ v).trans (decodeWrite_reserved k v)
  | rdId | rdCtrl | rdStatus | rdPulse | rdPaylen | rdPktlen | rdPcount | rdLasttick | rdVlen | rdVresult
  | rdBufPtr | rdBufData => exact decode_htWord_read _ 0
  | nop | encBegin | encEnd | encAbort | validate | softReset => exact decode_htWord_write 1 _
  | wrId v | wrStatus v | wrPulse v | wrPaylen v | wrPktlen v | wrPcount v | wrLasttick v | wrVlen v
  | wrVresult v | wrBufPtr v | wrBufData v => exact decode_htWord_write _ v

/-- Settles O1, row by row of the register map and the command table. -/
theorem decodeOfEncodeIsIdentity : Obligations.DecodeOfEncodeIsIdentity :=
  fun _ hi => decode_encode hi

theorem encode_decodeRead (k : BitVec 4) : encode (decodeRead k) = encodeRead k := by
  obtain ⟨r, rfl⟩ := exists_regWidx k
  cases r with
  | rsvd j => rw [regWidx, decodeRead_reserved, encode]
  | _ => rfl

theorem encode_decodeWrite (k : BitVec 4) (v : Word) : encode (decodeWrite k v) = encodeWrite k v := by
  obtain ⟨r, rfl⟩ := exists_regWidx k
  cases r with
  | ctrl => exact encode_decodeCtrl v
  | rsvd j => rw [regWidx, decodeWrite_reserved, encode]
  | _ => rfl

theorem decodeRead_wellFormed (k : BitVec 4) : (decodeRead k).wellFormed = true := by
  revert k; decide

theorem decodeWrite_wellFormed (k : BitVec 4) (v : Word) : (decodeWrite k v).wellFormed = true := by
  obtain ⟨r, rfl⟩ := exists_regWidx k
  cases r with
  | ctrl => exact decodeCtrl_wellFormed v
  | rsvd j => rw [regWidx, decodeWrite_reserved]; rfl
  | _ => rfl

/-- Settles O2: by the bit W, the row of a write gives back WIDX and DATA, the row of a read WIDX alone. -/
theorem encodeOfDecodeIsCanonical : Obligations.EncodeOfDecodeIsCanonical := by
  intro w
  cases hw : htWrite w with
  | true =>
    rw [decode, if_pos hw, if_pos rfl]
    exact ⟨decodeWrite_wellFormed _ _, encode_decodeWrite _ _⟩
  | false =>
    rw [decode, hw, if_neg Bool.false_ne_true, if_neg Bool.false_ne_true]
    exact ⟨decodeRead_wellFormed _, encode_decodeRead _⟩

/-! ## Words of the test vectors -/

/-- Settles O4, by running the decoder on each word. -/
theorem sampleWordsDecode : Obligations.SampleWordsDecode := by
  unfold Obligations.SampleWordsDecode; decide

/-- Settles O5, by running the expansions. -/
theorem pseudoInstructionsExpand : Obligations.PseudoInstructionsExpand := by
  unfold Obligations.PseudoInstructionsExpand; decide

/-! ## Unique decoding of packed ticks -/

section Ticks
variable {t u : Tick}

theorem tick_eq_of_bytes (hh : highByte t = highByte u) (hl : lowByte t = lowByte u) : t = u :=
  BitVec.eq_of_toNat_eq (by rw [← declaredLength_bytes t, ← declaredLength_bytes u, hh, hl])

/-- The high byte of a tick in the short form is 0 (R107). -/
theorem highByte_of_short (ht : t.toNat < 256) : highByte t = 0 :=
  BitVec.eq_of_toNat_eq (by simp [Nat.div_eq_of_lt ht])

/-- The byte of a nonzero tick in the short form is not 0x00, with which the long form begins (R107). -/
theorem lowByte_ne_zero_of_short (ht : t.toNat < 256) (h0 : t ≠ 0) : lowByte t ≠ 0 :=
  fun hl => h0 (tick_eq_of_bytes (highByte_of_short ht) hl)

theorem pack_ne_nil (t : Tick) : pack t ≠ [] := List.ne_nil_of_length_pos (pack_length_pos t)

/-- The first element of a byte sequence tells a nonzero tick and where the rest begins: a first byte 0x00
marks the long form (R107, R108). -/
theorem pack_append_inj {xs ys : List Byte} (ht : t ≠ 0) (hu : u ≠ 0)
    (h : pack t ++ xs = pack u ++ ys) : t = u ∧ xs = ys := by
  obtain hts | htl := Nat.lt_or_ge t.toNat 256 <;> obtain hus | hul := Nat.lt_or_ge u.toNat 256
  · obtain ⟨hl, hxy⟩ : lowByte t = lowByte u ∧ xs = ys := by simpa [pack_short, hts, hus] using h
    exact ⟨tick_eq_of_bytes ((highByte_of_short hts).trans (highByte_of_short hus).symm) hl, hxy⟩
  · rw [pack_short hts, pack_long hul] at h
    exact absurd (List.head_eq_of_cons_eq h) (lowByte_ne_zero_of_short hts ht)
  · rw [pack_long htl, pack_short hus] at h
    exact absurd (List.head_eq_of_cons_eq h).symm (lowByte_ne_zero_of_short hus hu)
  · obtain ⟨hh, hl, hxy⟩ : highByte t = highByte u ∧ lowByte t = lowByte u ∧ xs = ys := by
      simpa [pack_long, htl, hul] using h
    exact ⟨tick_eq_of_bytes hh hl, hxy⟩

end Ticks

/-- Packing is injective on the lists of nonzero ticks (R108). -/
theorem flatMap_pack_inj {ts us : List Tick} (hts : ∀ t ∈ ts, t ≠ 0) (hus : ∀ u ∈ us, u ≠ 0)
    (h : ts.flatMap pack = us.flatMap pack) : ts = us := by
  induction ts generalizing us with
  | nil =>
    cases us with
    | nil => rfl
    | cons u us => exact absurd h.symm (by simp [pack_ne_nil])
  | cons t ts ih =>
    cases us with
    | nil => exact absurd h (by simp [pack_ne_nil])
    | cons u us =>
      rw [List.forall_mem_cons] at hts hus
      obtain ⟨ht, hts⟩ := hts
      obtain ⟨hu, hus⟩ := hus
      rw [List.flatMap_cons, List.flatMap_cons] at h
      obtain ⟨rfl, hrest⟩ := pack_append_inj ht hu h
      rw [ih hts hus hrest]

/-- Settles O32: nonzero ticks by the first element's form; 0, 1, 0 against 256 by their bytes 00 01 00. -/
theorem nonzeroTicksPackUniquely : Obligations.NonzeroTicksPackUniquely :=
  ⟨fun _ _ hts hus h => flatMap_pack_inj hts hus h, by decide⟩

end Sys2Proof.Machine

/-! The encoder (R140 to R149, R192, R262): Scale, Pack and Frame; what ENC_BEGIN, ENC_END and ENC_ABORT leave;
a session computes Encode of its durations; and what VALIDATE finds after a session. -/

namespace Sys2Proof.Machine

/-! ## Scale and Pack -/

/-- The scaler of the default tick ratio in numerals (R140). -/
theorem scale_device_toNat (d : Word) :
    (scale Config.device d).toNat = min (d.toNat * 8192 / 269000) 65535 :=
  scale_toNat Config.device d

/-- A tick count of the default ratio is known from its numeral (R140). -/
theorem scale_device_eq_iff {d : Word} {t : Tick} :
    scale Config.device d = t ↔ min (d.toNat * 8192 / 269000) 65535 = t.toNat := by
  rw [← BitVec.toNat_inj, scale_device_toNat]

/-- Settles O30: the clamped quotient, and the corners by arithmetic on it. -/
theorem scaleDividesAndClamps : Obligations.ScaleDividesAndClamps := by
  refine ⟨scale_toNat, scale_device_toNat, fun d => ?_, fun d => ?_, fun d => ?_, fun d => ?_, by decide⟩
  · rw [scale_device_eq_iff, show (0 : Tick).toNat = 0 from rfl]; omega
  · rw [scale_device_eq_iff, show (65535 : Tick).toNat = 65535 from rfl]; omega
  · omega
  · omega

/-- Settles O31: the two forms, and the bytes of the long one as quotient and remainder. -/
theorem packUsesOneOrThreeBytes : Obligations.PackUsesOneOrThreeBytes := by
  refine ⟨fun t ht => ?_, fun t ht => ⟨highByte t, lowByte t, pack_long ht, ?_, ?_⟩, by decide⟩
  · rw [pack_short ht, lowByte_eq]
  · rw [highByte_toNat, lowByte_toNat]; omega
  · rw [highByte_toNat]; omega

/-! ## Frame and Encode -/

section Codec
variable {c : Config} {ds : List Word} {p : List Byte}

/-- The header in numerals: the payload length little-endian (R75, R106). -/
theorem header_ofNat (n : Nat) :
    header (BitVec.ofNat 16 n) = [0x26, 0x00, BitVec.ofNat 8 n, BitVec.ofNat 8 (n / 256)] := by
  have hlow : lowByte (BitVec.ofNat 16 n) = BitVec.ofNat 8 n :=
    BitVec.eq_of_toNat_eq (by simp only [lowByte_toNat, BitVec.toNat_ofNat]; omega)
  have hhigh : highByte (BitVec.ofNat 16 n) = BitVec.ofNat 8 (n / 256) :=
    BitVec.eq_of_toNat_eq (by simp only [highByte_toNat, BitVec.toNat_ofNat]; omega)
  rw [header, hlow, hhigh]

theorem encodeTrain_of_le (h : (payload c ds).length ≤ 65535) :
    encodeTrain c ds = some (frame (payload c ds)) := if_pos h

theorem encodeTrain_of_gt (h : 65535 < (payload c ds).length) : encodeTrain c ds = none :=
  if_neg (Nat.not_le.mpr h)

/-- Encode makes a packet exactly if the payload fits (R142). -/
theorem encodeTrain_eq_some_iff :
    encodeTrain c ds = some p ↔ (payload c ds).length ≤ 65535 ∧ frame (payload c ds) = p := by
  simp [encodeTrain]

theorem encodeTrain_eq_none_iff : encodeTrain c ds = none ↔ 65535 < (payload c ds).length := by
  simp [encodeTrain]

theorem encodeTrain_isSome_iff :
    (encodeTrain c ds).isSome = true ↔ (payload c ds).length ≤ 65535 := by
  simp [Option.isSome_iff_exists, encodeTrain_eq_some_iff]

/-- The payload has the bytes of its elements (R142). -/
theorem payload_length (c : Config) (ds : List Word) :
    (payload c ds).length = (ds.map fun d => (pack (scale c d)).length).sum :=
  List.length_flatMap

/-- A train whose elements all have `n` bytes (R149). -/
theorem payload_length_of_forall {n : Nat} (h : ∀ d ∈ ds, (pack (scale c d)).length = n) :
    (payload c ds).length = ds.length * n := by
  rw [payload_length, List.map_congr_left h, List.map_const', List.sum_replicate, smul_eq_mul]

/-- No packet is longer than BUF (R149). -/
theorem frame_length_le (h : p.length ≤ 65535) : (frame p).length ≤ 65552 := by
  rw [frame_length, ceil16_eq]; omega

end Codec

/-- Settles O33: Frame's header and padding in numerals, and Encode on both sides of the limit. -/
theorem encodeFramesThePayload : Obligations.EncodeFramesThePayload := by
  refine ⟨fun p _ => ⟨ceil16 (4 + p.length) - (4 + p.length), ?_, ?_, frame_length p⟩,
    fun c ds => ⟨List.flatMap_def, encodeTrain_of_le, encodeTrain_of_gt⟩, by decide,
    fun p hp => (frame_length p).trans (by rw [hp]; rfl),
    fun p hp => (frame_length p).trans (by rw [hp]; rfl),
    fun p hp => (frame_length p).trans (by rw [hp]; rfl)⟩
  · have := ceil16_lt (4 + p.length); omega
  · rw [frame, header_ofNat]; rfl

/-- Settles O41: the payload's length as a sum over the elements, which have 1 or 3 bytes. -/
theorem capacityOfASession : Obligations.CapacityOfASession := by
  refine ⟨fun c ds h => ?_, fun c ds h => ?_, fun c ds => ?_, fun c ds p hp => ?_, fun p hp => ?_⟩
  · rw [encodeTrain_isSome_iff,
      payload_length_of_forall fun d hd => (pack_length _).trans (if_pos (h d hd)), Nat.mul_one]
  · rw [encodeTrain_isSome_iff, payload_length_of_forall fun d hd =>
      (pack_length _).trans (if_neg (Nat.not_lt.mpr (h d hd)))]
    omega
  · rw [encodeTrain_isSome_iff, payload_length]
  · obtain ⟨hfit, rfl⟩ := encodeTrain_eq_some_iff.mp hp
    exact frame_length_le hfit
  · refine ⟨by rw [frame_length, hp]; rfl, ?_, ?_⟩ <;> rw [frame, header_ofNat, hp] <;> rfl

/-! ## What the session commands leave -/

/-- Settles O34: the session elements and the cleared header in mode IDLE, CmdErr in a session. -/
theorem encBeginStartsASession : Obligations.EncBeginStartsASession := by
  refine fun s => ⟨fun hm => ⟨s.begun, exec_encBegin_idle hm, rfl, fun a ha => ?_, fun a ha => ?_⟩,
    execEncBegin_encoding⟩
  · exact (read_clearedHeader s.buf a).trans (if_pos ha)
  · exact (read_clearedHeader s.buf a).trans (if_neg (Nat.not_lt.mpr ha))

/-- Settles O37: ENC_ABORT in both modes; the header is cleared by the invariant. -/
theorem encAbortAbandonsTheSession : Obligations.EncAbortAbandonsTheSession :=
  fun _ => ⟨execEncAbort_encoding, fun hm hs => ⟨hs.encodingHeader hm, hs.encodingNotFailed hm⟩,
    execEncAbort_idle⟩

section Holds
variable {m : Memory} {a b : Nat} {xs ys : List Byte}

/-- A write elsewhere leaves the bytes where they lie. -/
theorem Holds.writeBytes (h : Holds m a xs) (hb : a + xs.length ≤ b ∨ b + ys.length ≤ a) :
    Holds (m.writeBytes b ys) a xs :=
  fun k hk => (Memory.read_writeBytes_outside m b ys (by omega)).trans (h k hk)

theorem Holds.append (hx : Holds m a xs) (hy : Holds m (a + xs.length) ys) : Holds m a (xs ++ ys) := by
  intro k hk
  obtain hlt | hge := Nat.lt_or_ge k xs.length
  · rw [List.getElem?_append_left hlt, hx k hlt]
  · rw [List.getElem?_append_right hge, ← hy (k - xs.length) (by rw [List.length_append] at hk; omega)]
    congr 1; omega

end Holds

section PacketWritten
variable {s : State}

/-- ENC_END of a session that did not overflow (R145). -/
theorem exec_encEnd_live (hm : s.mode = .encoding) (ho : s.ovf = false) :
    exec .encEnd s = .next s.packetWritten := execEncEnd_live hm ho

theorem State.packetWritten_pktlen_toNat (s : State) :
    s.packetWritten.pktlen.toNat = ceil16 (4 + s.paylen.toNat) :=
  pktlen_toNat s.paylen

/-- The header lies at BUF[0] (R145). -/
theorem State.packetWritten_header (s : State) : Holds s.packetWritten.buf 0 (header s.paylen) :=
  (holds_writeBytes s.buf 0 (header s.paylen)).writeBytes (.inl (by simp))

/-- The padding lies after the payload (R145). -/
theorem State.packetWritten_padding (s : State) :
    Holds s.packetWritten.buf (4 + s.paylen.toNat) (padding (4 + s.paylen.toNat)) :=
  holds_writeBytes _ _ _

/-- Every byte of the padding is 0 (R142). -/
theorem State.packetWritten_padding_read {a : Nat} (hlo : 4 + s.paylen.toNat ≤ a)
    (hhi : a < ceil16 (4 + s.paylen.toNat)) : s.packetWritten.buf.read a = some 0 := by
  have hk : a - (4 + s.paylen.toNat) < (padding (4 + s.paylen.toNat)).length := by
    rw [padding_length]; omega
  have hread := s.packetWritten_padding _ hk
  rw [Nat.add_sub_cancel' hlo] at hread
  rw [hread, padding, List.getElem?_replicate, if_pos (by rwa [padding_length] at hk)]

/-- ENC_END writes nothing but the header and the padding (R145). -/
theorem State.packetWritten_read_of_outside {a : Nat}
    (ha : (4 ≤ a ∧ a < 4 + s.paylen.toNat) ∨ ceil16 (4 + s.paylen.toNat) ≤ a) :
    s.packetWritten.buf.read a = s.buf.read a := by
  have hle := le_ceil16 (4 + s.paylen.toNat)
  exact (Memory.read_writeBytes_outside _ _ _ (by rw [padding_length]; omega)).trans
    (Memory.read_writeBytes_outside _ _ _ (.inr (by rw [header_length]; omega)))

/-- Header, payload and padding are the frame of the payload (R142, R145). -/
theorem State.packetWritten_frame {p : List Byte} (hlen : s.paylen.toNat = p.length)
    (hp : Holds s.buf 4 p) : Holds s.packetWritten.buf 0 (frame p) := by
  have hle := le_ceil16 (4 + s.paylen.toNat)
  have hpay : Holds s.packetWritten.buf 4 p := fun k hk =>
    (State.packetWritten_read_of_outside (.inl (by omega))).trans (hp k hk)
  rw [frame, ← hlen, BitVec.ofNat_toNat, BitVec.setWidth_eq]
  refine (s.packetWritten_header.append (by rwa [header_length])).append ?_
  rw [List.length_append, header_length, ← hlen, Nat.zero_add]
  exact s.packetWritten_padding

end PacketWritten

/-- Settles O36: CmdErr in mode IDLE, a failed session after an overflow, else the packet written. -/
theorem encEndCompletesThePacket : Obligations.EncEndCompletesThePacket := by
  intro s
  refine ⟨execEncEnd_idle, execEncEnd_failed, fun hm ho => ⟨s.packetWritten, exec_encEnd_live hm ho, rfl,
    s.packetWritten_pktlen_toNat, ?_⟩⟩
  have hheader := s.packetWritten_header
  rw [s.packetWritten_pktlen_toNat]
  exact ⟨hheader.read (by simp), hheader.read (by simp), hheader.read (by simp),
    hheader.read (by simp), fun _ => State.packetWritten_padding_read,
    fun _ => State.packetWritten_read_of_outside⟩

/-! ## A session computes Encode -/

/-- LASTTICK after the durations `ds` of a session: the tick of the last one, at first 0 (R143, R144). -/
def lastTick (c : Config) (ds : List Word) : Tick := (ds.getLast?.map (scale c)).getD 0

/-- The durations `ds` have been presented in a session, and of them those at the beginning, `es`, have
been accepted (R144, R147): all of them, or as many as come before the first that does not fit. -/
structure InSession (c : Config) (ds es : List Word) (s : State) : Prop where
  config : s.config = c
  mode : s.mode = .encoding
  notFailed : s.encFail = false
  accepted : es <+: ds
  pcount : s.pcount.toNat = es.length
  paylen : s.paylen.toNat = (payload c es).length
  lasttick : s.lasttick = lastTick c ds
  stored : Holds s.buf 4 (payload c es)
  header : HeaderCleared s.buf
  /-- While the session has not overflowed, nothing has been dropped. -/
  allAccepted : s.ovf = false → es = ds
  /-- The first duration dropped did not fit. -/
  firstDropped : s.ovf = true → ∃ d, es ++ [d] <+: ds ∧ 65535 < (payload c (es ++ [d])).length

/-- The beginning of a train has no longer payload than the train (R142). -/
theorem payload_length_le_of_prefix {c : Config} {es ds : List Word} (h : es <+: ds) :
    (payload c es).length ≤ (payload c ds).length := by
  obtain ⟨fs, rfl⟩ := h
  rw [payload_append, List.length_append]
  exact Nat.le_add_right _ _

@[simp] theorem payload_concat (c : Config) (ds : List Word) (d : Word) :
    payload c (ds ++ [d]) = payload c ds ++ pack (scale c d) := by
  simp [payload_append, payload_cons]

@[simp] theorem lastTick_concat (c : Config) (ds : List Word) (d : Word) :
    lastTick c (ds ++ [d]) = scale c d := by simp [lastTick]

/-- ENC_BEGIN starts a session with no duration (R143). -/
theorem State.begun_inSession (s : State) : InSession s.config [] [] s.begun where
  config := rfl
  mode := rfl
  notFailed := rfl
  accepted := List.prefix_rfl
  pcount := rfl
  paylen := rfl
  lasttick := rfl
  stored := fun _ hk => absurd hk (Nat.not_lt_zero _)
  header := fun a ha => (read_clearedHeader s.buf a).trans (if_pos ha)
  allAccepted := fun _ => rfl
  firstDropped := by simp [State.begun]

/-- A PULSE that fits lengthens the payload in BUF by its element (R144). -/
theorem State.afterPulse_payload {d : Word} {s : State} {p : List Byte} (hlen : s.paylen.toNat = p.length)
    (hp : Holds s.buf 4 p) : Holds (s.afterPulse d).buf 4 (p ++ pack (scale s.config d)) := by
  refine Holds.append (hp.writeBytes (.inl (by omega))) ?_
  rw [← hlen]
  exact State.afterPulse_holds

/-- A PULSE that fits adds one to PCOUNT, without wrapping (R36, R144; log 12). -/
theorem State.afterPulse_pcount_toNat {d : Word} {s : State}
    (hf : s.paylen.toNat + (pack (scale s.config d)).length ≤ 65535)
    (hle : s.pcount.toNat ≤ s.paylen.toNat) : (s.afterPulse d).pcount.toNat = s.pcount.toNat + 1 := by
  have hpos := pack_length_pos (scale s.config d)
  have hadd : (s.afterPulse d).pcount = s.pcount + 1 := rfl
  rw [hadd]
  bv_omega

namespace InSession
variable {c : Config} {ds es : List Word} {d : Word} {s : State}

/-- What has been accepted fits (R34). -/
theorem fits (h : InSession c ds es s) : (payload c es).length ≤ 65535 := by
  have := s.paylen.isLt
  have := h.paylen
  omega

/-- A session does not speak of these elements: any change to them keeps it. -/
theorem frame_registers (h : InSession c ds es s) {ce be : Bool} {n p : Word} {log : List Word} :
    InSession c ds es { s with cmdErr := ce, bufErr := be, vlen := n, bufPtr := p, readLog := log } :=
  { h with }

/-- A PULSE after the overflow is dropped (R144). -/
theorem dropped (h : InSession c ds es s) (ho : s.ovf = true) :
    InSession c (ds ++ [d]) es (s.setLasttick (scale s.config d)) :=
  { h with
    accepted := h.accepted.trans (List.prefix_append ds [d])
    lasttick := by simp [h.config]
    allAccepted := fun hno => by cases ho.symm.trans hno
    firstDropped := fun _ =>
      have ⟨e, he, hlong⟩ := h.firstDropped ho
      ⟨e, he.trans (List.prefix_append ds [d]), hlong⟩ }

/-- A PULSE that does not fit is the first one dropped (R144). -/
theorem overflows (h : InSession c ds es s) (ho : s.ovf = false)
    (hf : 65535 < s.paylen.toNat + (pack (scale s.config d)).length) :
    InSession c (ds ++ [d]) es (s.setLasttick (scale s.config d)).setOvf :=
  { h with
    accepted := h.accepted.trans (List.prefix_append ds [d])
    lasttick := by simp [h.config]
    allAccepted := by simp
    firstDropped := fun _ => by
      refine ⟨d, by rw [h.allAccepted ho], ?_⟩
      rwa [payload_concat, List.length_append, ← h.paylen, ← h.config] }

/-- A PULSE that fits extends the payload, above the header and the payload so far (R144). -/
theorem appended (h : InSession c ds es s) (ho : s.ovf = false)
    (hf : s.paylen.toNat + (pack (scale s.config d)).length ≤ 65535) :
    InSession c (ds ++ [d]) (es ++ [d]) (s.afterPulse d) :=
  have hpaylen := h.paylen
  { h with
    accepted := by rw [h.allAccepted ho]
    pcount := by
      have hle : s.pcount.toNat ≤ s.paylen.toNat := h.pcount ▸ hpaylen ▸ length_le_payload c es
      rw [State.afterPulse_pcount_toNat hf hle, h.pcount, List.length_append, List.length_singleton]
    paylen := by
      rw [State.afterPulse_paylen_toNat hf, payload_concat, List.length_append, hpaylen, h.config]
    lasttick := by simp [h.config]
    stored := by
      rw [payload_concat, ← h.config]
      exact State.afterPulse_payload (h.config ▸ hpaylen) (h.config ▸ h.stored)
    header := fun a ha =>
      (Memory.read_writeBytes_outside _ _ _ (.inl (Nat.lt_add_right _ ha))).trans (h.header a ha)
    allAccepted := fun _ => by rw [h.allAccepted ho]
    firstDropped := fun hyes => by cases ho.symm.trans hyes }

/-- No beginning of the train that fits is longer than the one accepted (R147). -/
theorem length_le_of_fits (h : InSession c ds es s) {fs : List Word} (hfs : fs <+: ds)
    (hfit : (payload c fs).length ≤ 65535) : fs.length ≤ es.length := by
  cases ho : s.ovf with
  | false => exact h.allAccepted ho ▸ hfs.length_le
  | true =>
    obtain ⟨d, hd, hlong⟩ := h.firstDropped ho
    by_contra hlt
    have hpre : es ++ [d] <+: fs := List.prefix_of_prefix_length_le hd hfs (by simpa using hlt)
    have := payload_length_le_of_prefix (c := c) hpre
    omega

/-- A session has overflowed exactly if its train does not fit (R142, R147). -/
theorem ovf_eq (h : InSession c ds es s) : s.ovf = decide (65535 < (payload c ds).length) := by
  cases ho : s.ovf with
  | false =>
    have hfits := h.fits
    rw [h.allAccepted ho] at hfits
    simpa using hfits
  | true =>
    obtain ⟨d, hd, hlong⟩ := h.firstDropped ho
    have hle := payload_length_le_of_prefix (c := c) hd
    simpa using hlong.trans_le hle

end InSession

/-- The transactions that R147 allows in a session: reads without side effect, and three writes. -/
theorem allowedInSession_cases {i : Instr} (hi : allowedInSession i = true) :
    readsRegister i = true ∨ (∃ v, i = .wrVlen v) ∨ (∃ v, i = .wrBufPtr v) ∨ ∃ v, i = .wrStatus v := by
  cases i with
  | rdId | rdCtrl | rdStatus | rdPulse | rdPaylen | rdPktlen | rdPcount | rdLasttick | rdVlen
  | rdVresult | rdBufPtr | rdRsvd k => exact .inl rfl
  | wrVlen v => exact .inr (.inl ⟨v, rfl⟩)
  | wrBufPtr v => exact .inr (.inr (.inl ⟨v, rfl⟩))
  | wrStatus v => exact .inr (.inr (.inr ⟨v, rfl⟩))
  | _ => cases hi

theorem pulseOf_of_allowed {i : Instr} (hi : allowedInSession i = true) : pulseOf i = none := by
  cases i with
  | wrPulse d => cases hi
  | _ => rfl

theorem pulseOf_isSome {i : Instr} (hi : (pulseOf i).isSome = true) : ∃ d, i = .wrPulse d := by
  cases i with
  | wrPulse d => exact ⟨d, rfl⟩
  | _ => cases hi

theorem pulsesOf_cons (i : Instr) (is : List Instr) : pulsesOf (i :: is) = pulsesOf [i] ++ pulsesOf is :=
  List.filterMap_append (l := [i])

theorem pulsesOf_of_allowed {i : Instr} (hi : allowedInSession i = true) : pulsesOf [i] = [] := by
  simp [pulsesOf, pulseOf_of_allowed hi]

theorem pulsesOf_map_wrPulse (ds : List Word) : pulsesOf (ds.map .wrPulse) = ds := by
  simp [pulsesOf, List.filterMap_map, Function.comp_def, pulseOf]

/-- What stands between ENC_BEGIN and ENC_END (R147). -/
def SessionBody (is : List Instr) : Prop := ∀ i ∈ is, allowedInSession i = true ∨ (pulseOf i).isSome = true

/-- No WR STATUS among these clears CMD_ERR (R228; log 11). -/
def KeepsCmdErr (is : List Instr) : Prop := ∀ v, Instr.wrStatus v ∈ is → v.getLsbD 4 = false

namespace InSession
variable {c : Config} {ds es : List Word} {s : State}

/-- An allowed transaction leaves the session as it is (R147). -/
theorem exec_allowed {i : Instr} (h : InSession c ds es s) (hi : allowedInSession i = true) :
    ∃ t, exec i s = .next t ∧ InSession c ds es t ∧ (KeepsCmdErr [i] → t.cmdErr = s.cmdErr) := by
  obtain hr | ⟨v, rfl⟩ | ⟨v, rfl⟩ | ⟨v, rfl⟩ := allowedInSession_cases hi
  · obtain ⟨v, hv⟩ := exec_of_readsRegister hr s
    exact ⟨_, hv, h.frame_registers, fun _ => rfl⟩
  · exact ⟨_, rfl, h.frame_registers, fun _ => rfl⟩
  · exact ⟨_, rfl, h.frame_registers, fun _ => rfl⟩
  · refine ⟨s.clearErrors v, rfl, h.frame_registers, fun hk => ?_⟩
    rw [State.clearErrors_cmdErr, clearsCmdErr, hk v (List.mem_singleton_self _)]
    exact Bool.and_true _

/-- A PULSE is presented to the session, accepted or dropped (R144). -/
theorem exec_wrPulse (h : InSession c ds es s) (d : Word) :
    ∃ t fs, exec (.wrPulse d) s = .next t ∧ InSession c (ds ++ [d]) fs t ∧ t.cmdErr = s.cmdErr := by
  cases ho : s.ovf with
  | true => exact ⟨_, es, execWrPulse_dropped h.mode ho, h.dropped ho, rfl⟩
  | false =>
    obtain hf | hf := Nat.lt_or_ge 65535 (s.paylen.toNat + (pack (scale s.config d)).length)
    · exact ⟨_, es, (execWrPulse_live h.mode ho).trans
        (appendElement_overflow (s := s.setLasttick (scale s.config d)) hf), h.overflows ho hf, rfl⟩
    · exact ⟨_, es ++ [d], exec_wrPulse_fits h.mode ho hf, h.appended ho hf, rfl⟩

/-- A session goes on over one transaction that R147 has in one. -/
theorem exec_body {i : Instr} (h : InSession c ds es s)
    (hi : allowedInSession i = true ∨ (pulseOf i).isSome = true) :
    ∃ t fs, exec i s = .next t ∧ InSession c (ds ++ pulsesOf [i]) fs t ∧
      (KeepsCmdErr [i] → t.cmdErr = s.cmdErr) := by
  obtain hi | hi := hi
  · obtain ⟨t, ht, hs, hc⟩ := h.exec_allowed hi
    exact ⟨t, es, ht, by rwa [pulsesOf_of_allowed hi, List.append_nil], hc⟩
  · obtain ⟨d, rfl⟩ := pulseOf_isSome hi
    obtain ⟨t, fs, ht, hs, hc⟩ := h.exec_wrPulse d
    exact ⟨t, fs, ht, hs, fun _ => hc⟩

/-- A session goes on over any transactions that R147 has in one. -/
theorem execAll_body {is : List Instr} (h : InSession c ds es s) (his : SessionBody is) :
    ∃ t fs, execAll is s = .next t ∧ InSession c (ds ++ pulsesOf is) fs t ∧
      (KeepsCmdErr is → t.cmdErr = s.cmdErr) := by
  induction is generalizing s ds es with
  | nil => exact ⟨s, es, rfl, by simpa [pulsesOf] using h, fun _ => rfl⟩
  | cons i is ih =>
    obtain ⟨hi, his⟩ := List.forall_mem_cons.mp his
    obtain ⟨t, fs, ht, hs, hc⟩ := h.exec_body hi
    obtain ⟨u, gs, hu, hs, hcs⟩ := ih hs his
    refine ⟨u, gs, (execAll_cons_of_next ht).trans hu, ?_, fun hk => ?_⟩
    · rwa [pulsesOf_cons, ← List.append_assoc]
    · exact (hcs fun v hv => hk v (List.mem_cons_of_mem i hv)).trans
        (hc fun v hv => hk v (List.mem_singleton.mp hv ▸ List.mem_cons_self))

end InSession

/-- A list of transactions that answers a next state hands it to the transactions after it (R74). -/
theorem execAll_append_of_next {is js : List Instr} {s t : State} (h : execAll is s = .next t) :
    execAll (is ++ js) s = execAll js t := by
  induction is generalizing s with
  | nil => rw [next_inj h]; rfl
  | cons i is ih =>
    obtain ⟨u, hu⟩ := everyTransactionCompletes i s
    rw [execAll_cons_of_next hu] at h
    rw [List.cons_append, execAll_cons_of_next hu, ih h]

/-- The state after ENC_END of a session (R145). -/
def State.closed (s : State) : State := if s.ovf then s.failSession else s.packetWritten

section Closed
variable {s : State}

theorem exec_encEnd_encoding (hm : s.mode = .encoding) : exec .encEnd s = .next s.closed := by
  unfold State.closed
  split
  · next ho => exact execEncEnd_failed hm ho
  · next ho => exact exec_encEnd_live hm (Bool.eq_false_of_not_eq_true ho)

theorem State.closed_of_ovf (ho : s.ovf = true) : s.closed = s.failSession := if_pos ho

theorem State.closed_of_live (ho : s.ovf = false) : s.closed = s.packetWritten := by simp [State.closed, ho]

/-- Closing a session leaves everything but the mode, the packet and ENC_FAIL as it was (R145). -/
theorem State.closed_frame (s : State) : s.closed.mode = .idle ∧ s.closed.cmdErr = s.cmdErr ∧
    s.closed.ovf = s.ovf ∧ s.closed.paylen = s.paylen ∧ s.closed.pcount = s.pcount ∧
    s.closed.lasttick = s.lasttick := by
  unfold State.closed
  split <;> exact ⟨rfl, rfl, rfl, rfl, rfl, rfl⟩

/-- PKTLEN after a session (R145). -/
theorem State.closed_pktlen (s : State) :
    s.closed.pktlen = if s.ovf then 0 else BitVec.ofNat 17 (ceil16 (4 + s.paylen.toNat)) := by
  unfold State.closed
  split <;> rfl

end Closed

/-- A session from ENC_BEGIN to ENC_END completes, and what it leaves is read off its last state before
ENC_END (R147). -/
theorem execAll_session {s : State} {is : List Instr} (hm : s.mode = .idle) (his : SessionBody is) :
    ∃ t es, execAll (.encBegin :: is ++ [.encEnd]) s = .next t.closed ∧
      InSession s.config (pulsesOf is) es t ∧ (KeepsCmdErr is → t.cmdErr = s.cmdErr) := by
  obtain ⟨t, es, ht, hs, hc⟩ := s.begun_inSession.execAll_body his
  refine ⟨t, es, ?_, hs, hc⟩
  rw [execAll_append_of_next ((execAll_cons_of_next (exec_encBegin_idle hm)).trans ht)]
  exact execAll_singleton_of_next (exec_encEnd_encoding hs.mode)

/-- The header of a packet declares the length of its payload (R75, R106). -/
theorem declaredLength_frame {p : List Byte} (hp : p.length ≤ 65535) :
    declaredLength ((frame p).getD 2 0) ((frame p).getD 3 0) = p.length :=
  (declaredLength_bytes _).trans (Nat.mod_eq_of_lt (by omega))

namespace InSession
variable {c : Config} {ds es fs : List Word} {s t : State}

/-- A session that did not overflow leaves the frame of its payload in BUF (R145, R147). -/
theorem packetWritten_frame (h : InSession c ds es s) (ho : s.ovf = false) :
    Holds s.packetWritten.buf 0 (frame (payload c ds)) :=
  h.allAccepted ho ▸ State.packetWritten_frame h.paylen h.stored

theorem packetWritten_pktlen (h : InSession c ds es s) (ho : s.ovf = false) :
    s.packetWritten.pktlen.toNat = (frame (payload c ds)).length := by
  rw [State.packetWritten_pktlen_toNat, frame_length, h.paylen, h.allAccepted ho]

/-- The durations of a session determine which of them are accepted: as many as fit (R147, R148). -/
theorem accepted_unique (hs : InSession c ds es s) (ht : InSession c ds fs t) : es = fs :=
  (List.prefix_of_prefix_length_le hs.accepted ht.accepted
    (ht.length_le_of_fits hs.accepted hs.fits)).eq_of_length_le
    (hs.length_le_of_fits ht.accepted ht.fits)

end InSession

/-- Settles O38: the run is followed up to ENC_END, where OVF tells the two outcomes of Encode apart. -/
theorem sessionComputesEncode : Obligations.SessionComputesEncode := by
  intro s is hm his
  obtain ⟨t, es, hrun, h, hc⟩ := execAll_session hm his
  obtain ⟨hmode, hcmd, -, -, -, -⟩ := t.closed_frame
  refine ⟨t.closed, hrun, hmode, fun hk => hcmd.trans (hc hk), fun p hp => ?_, fun hp => ?_⟩
  · obtain ⟨hfit, rfl⟩ := encodeTrain_eq_some_iff.mp hp
    have ho : t.ovf = false := h.ovf_eq.trans (decide_eq_false (Nat.not_lt.mpr hfit))
    have hes := h.allAccepted ho
    have hpaylen := hes ▸ h.paylen
    rw [State.closed_of_live ho]
    exact ⟨h.packetWritten_frame ho, h.packetWritten_pktlen ho, hpaylen,
      hpaylen.trans (declaredLength_frame hfit).symm, hes ▸ h.pcount, rfl, h.notFailed, ho⟩
  · have ho : t.ovf = true := h.ovf_eq.trans (decide_eq_true (encodeTrain_eq_none_iff.mp hp))
    have htake : (pulsesOf is).take es.length = es := (List.prefix_iff_eq_take.mp h.accepted).symm
    rw [State.closed_of_ovf ho]
    refine ⟨es.length, h.accepted.length_le, by rw [htake]; exact h.fits, fun j hj hfit => ?_, h.pcount,
      by rw [htake]; exact h.paylen, ho, rfl, rfl, rfl, h.header⟩
    have := h.length_le_of_fits (List.take_prefix j _) hfit
    rwa [List.length_take, Nat.min_eq_left hj] at this

/-- Settles O40: the configuration and the durations determine what is accepted, and with it the packet. -/
theorem packetDependsOnlyOnTheTrain : Obligations.PacketDependsOnlyOnTheTrain := by
  intro s s' t t' ds hc hm hm' ht ht'
  have hbody : SessionBody (ds.map .wrPulse) := by simp [SessionBody, pulseOf]
  obtain ⟨u, es, hrun, h, -⟩ := execAll_session hm hbody
  obtain ⟨u', es', hrun', h', -⟩ := execAll_session hm' hbody
  rw [pulsesOf_map_wrPulse] at h h'
  rw [← hc] at h'
  obtain rfl := next_inj (hrun.symm.trans ht)
  obtain rfl := next_inj (hrun'.symm.trans ht')
  obtain rfl := h.accepted_unique h'
  have hpaylen : u.paylen = u'.paylen := BitVec.eq_of_toNat_eq (h.paylen.trans h'.paylen.symm)
  have hpcount : u.pcount = u'.pcount := BitVec.eq_of_toNat_eq (h.pcount.trans h'.pcount.symm)
  have hovf : u.ovf = u'.ovf := h.ovf_eq.trans h'.ovf_eq.symm
  obtain ⟨-, -, ho, hp, hn, hl⟩ := u.closed_frame
  obtain ⟨-, -, ho', hp', hn', hl'⟩ := u'.closed_frame
  refine ⟨?_, ?_, ?_, ?_, ?_, fun a ha => ?_⟩
  · rw [State.closed_pktlen, State.closed_pktlen, hovf, hpaylen]
  · rw [hp, hp', hpaylen]
  · rw [hn, hn', hpcount]
  · rw [ho, ho', hovf]
  · rw [hl, hl', h.lasttick, h'.lasttick]
  · cases hv : u.ovf with
    | true => rw [State.closed_of_ovf hv] at ha; exact absurd ha (Nat.not_lt_zero a)
    | false =>
      rw [State.closed_of_live hv, h.packetWritten_pktlen hv] at ha
      rw [State.closed_of_live hv, State.closed_of_live (hovf ▸ hv)]
      exact ((h.packetWritten_frame hv).read ha).trans
        ((h'.packetWritten_frame (hovf ▸ hv)).read ha).symm

/-! ## VALIDATE after a session -/

/-- A length and a header that ENC_END writes pass the four checks (R148, R190). -/
theorem checkPacket_header (n : BitVec 16) :
    checkPacket (ceil16 (4 + n.toNat)) 0x26 (lowByte n) (highByte n) =
      { lenFail := false, alignFail := false, typeFail := false, shortFail := false, valid := true } := by
  have hshort : ¬ ceil16 (4 + n.toNat) < 4 := by
    have := le_ceil16 (4 + n.toNat); omega
  simp [checkPacket, hshort, ceil16_mod]

/-- With its header cleared no sequence is valid (R143, R190). -/
theorem checkPacket_cleared (n : Nat) (b2 b3 : Byte) : (checkPacket n 0 b2 b3).valid = false := by
  by_cases hn : n < 4 <;> simp [checkPacket, hn]

/-- Settles O39: the frame's header and length pass the checks. -/
theorem encodedPacketsValidate : Obligations.EncodedPacketsValidate := by
  intro c ds p hp
  obtain ⟨hfit, rfl⟩ := encodeTrain_eq_some_iff.mp hp
  have hlen : (frame (payload c ds)).length = ceil16 (4 + (payload c ds).length) := frame_length _
  refine ⟨?_, hlen ▸ ceil16_mod _, by rw [hlen, ceil16_eq]; omega, frame_length_le hfit⟩
  have hcheck := checkPacket_header (BitVec.ofNat 16 (payload c ds).length)
  rw [BitVec.toNat_ofNat, Nat.mod_eq_of_lt (by omega), ← hlen] at hcheck
  exact congrArg Verdict.valid hcheck

/-- Writing VLEN and then VALIDATE, over a written header (R191, R231). -/
theorem execAll_wrVlen_validate {s : State} {v : Word} {b0 b2 b3 : Byte} (hm : s.mode = .idle)
    (h0 : s.buf.read 0 = some b0) (h2 : s.buf.read 2 = some b2) (h3 : s.buf.read 3 = some b3) :
    execAll [.wrVlen v, .validate] s =
      .next ((s.setVlen v).setVerdict (checkPacket v.toNat b0 b2 b3)) :=
  execAll_singleton_of_next (execValidate_written (s := s.setVlen v) hm h0 h2 h3)

/-- Settles O45: the header that ENC_END wrote and the length it put in PKTLEN pass the checks. -/
theorem completedSessionValidates : Obligations.CompletedSessionValidates := by
  intro s t hm ho ht
  obtain rfl := next_inj ((exec_encEnd_live hm ho).symm.trans ht)
  have hheader := s.packetWritten_header
  have hlen := s.packetWritten_pktlen_toNat
  have hle := le_ceil16 (4 + s.paylen.toNat)
  refine ⟨by omega, _, execAll_wrVlen_validate rfl (hheader.read (by simp)) (hheader.read (by simp))
    (hheader.read (by simp)), ?_, rfl, rfl⟩
  rw [State.setVerdict_vres, BitVec.toNat_setWidth_of_le (by decide), hlen]
  exact congrArg verdictBits (checkPacket_header s.paylen)

/-- Over a cleared header VALIDATE finds BUF not valid at any VLEN (R143, R191). -/
theorem execAll_wrVlen_validate_cleared {s : State} (v : Word) (hm : s.mode = .idle)
    (h : HeaderCleared s.buf) : ∃ r : Verdict, (verdictBits r).getLsbD 0 = false ∧
      execAll [.wrVlen v, .validate] s = .next ((s.setVlen v).setVerdict r) :=
  ⟨checkPacket v.toNat 0 0 0, (verdictBits_valid _).trans (checkPacket_cleared _ _ _),
    execAll_wrVlen_validate hm (h 0 (by decide)) (h 2 (by decide)) (h 3 (by decide))⟩

/-- Settles O46: both closings keep the cleared header, which fails the type check at any length. -/
theorem unfinishedSessionNeverValidates : Obligations.UnfinishedSessionNeverValidates := by
  intro s v hs hm
  have hheader := hs.encodingHeader hm
  refine ⟨?_, fun ho => ?_⟩
  · obtain ⟨r, hr, hrun⟩ := execAll_wrVlen_validate_cleared (s := s.abortSession) v rfl hheader
    exact ⟨_, (execAll_cons_of_next (i := .encAbort) (execEncAbort_encoding hm)).trans hrun,
      hr, rfl, rfl, hheader⟩
  · obtain ⟨r, hr, hrun⟩ := execAll_wrVlen_validate_cleared (s := s.failSession) v rfl hheader
    exact ⟨_, (execAll_cons_of_next (i := .encEnd) (execEncEnd_failed hm ho)).trans hrun,
      hr, rfl, rfl, rfl, hheader⟩

end Sys2Proof.Machine

/-! The packet check and the VALIDATE command (spec/41_validator.md R190, R191): the four checks on any
byte sequence, and what VALIDATE reads, draws and writes. -/

namespace Sys2Proof.Machine

/-! ## The packet check -/

/-- The boolean of Validate: none of the four checks failed (R190). -/
theorem checkPacket_valid_iff (n : Nat) (b0 b2 b3 : Byte) : (checkPacket n b0 b2 b3).valid = true ↔
    (checkPacket n b0 b2 b3).shortFail = false ∧ (checkPacket n b0 b2 b3).typeFail = false ∧
    (checkPacket n b0 b2 b3).alignFail = false ∧ (checkPacket n b0 b2 b3).lenFail = false := by
  have hvalid : (checkPacket n b0 b2 b3).valid =
      !((checkPacket n b0 b2 b3).shortFail || (checkPacket n b0 b2 b3).typeFail ||
        (checkPacket n b0 b2 b3).alignFail || (checkPacket n b0 b2 b3).lenFail) := rfl
  rw [hvalid]
  simp only [Bool.not_eq_true', Bool.or_eq_false_iff, and_assoc]

/-- A header's 16-bit length field declares at most 65552 bytes with the header and the padding (R75). -/
theorem ceil16_declaredLength_le (b2 b3 : Byte) : ceil16 (4 + declaredLength b2 b3) ≤ 65552 := by
  have h2 := b2.isLt
  have h3 := b3.isLt
  rw [ceil16_eq, declaredLength]
  omega

/-- A sequence longer than any header can declare is not valid (R190). -/
theorem checkPacket_long {n : Nat} (hn : 65552 < n) (b0 b2 b3 : Byte) :
    (checkPacket n b0 b2 b3).valid = false := by
  have hlen : (checkPacket n b0 b2 b3).lenFail = true := by
    have hne : ceil16 (4 + declaredLength b2 b3) ≠ n :=
      ((ceil16_declaredLength_le b2 b3).trans_lt hn).ne
    simp [checkPacket_lenFail, hne, show 4 ≤ n by omega]
  refine Bool.eq_false_iff.mpr fun hvalid => ?_
  obtain ⟨-, -, -, hlenOk⟩ := (checkPacket_valid_iff n b0 b2 b3).mp hvalid
  exact Bool.false_ne_true (hlenOk.symm.trans hlen)

/-- Settles O42: each check in numerals; a length field of 16 bits reaches 65552 at most. -/
theorem validateMakesTheFourChecks : Obligations.ValidateMakesTheFourChecks := by
  intro p
  refine ⟨?_, ?_, ?_, ?_, checkPacket_valid_iff _ _ _ _, fun hp => checkPacket_long hp _ _ _⟩
  · rw [validatePacket, checkPacket_shortFail, decide_eq_true_iff]
  · rw [validatePacket, checkPacket_alignFail, decide_eq_true_iff]
  · rw [validatePacket, checkPacket_typeFail, Bool.and_eq_true, Bool.not_eq_true', decide_eq_false_iff_not,
      decide_eq_true_iff, Nat.not_lt]
    refine and_congr_right fun h4 => not_congr ?_
    have hfirst : p[0]? = some (p.getD 0 0) := by simp [show 0 < p.length by omega]
    rw [hfirst, Option.some_inj]
  · rw [validatePacket, checkPacket_lenFail, ceil16_eq, declaredLength]
    simp

/-! ## The command -/

/-- A read of BUF consumes a draw exactly when its byte is unwritten (R72). -/
theorem State.afterRead_draws (a : Nat) (s : State) :
    (s.afterRead a).draws = s.draws + (if s.buf.read a = none then 1 else 0) := by
  cases h : s.buf.read a with
  | none => rw [State.afterRead_of_none h]; rfl
  | some b => rw [State.afterRead_of_some h]; rfl

/-- What the length alone decides of VRESULT, whatever the header bytes are (R49, R190). -/
theorem verdictBits_of_length (n : Nat) (b0 b2 b3 : Byte) :
    ((verdictBits (checkPacket n b0 b2 b3)).getLsbD 1 = true ↔ n < 4) ∧
    ((verdictBits (checkPacket n b0 b2 b3)).getLsbD 3 = true ↔ n % 16 ≠ 0) ∧
    (65552 < n → (verdictBits (checkPacket n b0 b2 b3)).getLsbD 0 = false) := by
  rw [verdictBits_shortFail, checkPacket_shortFail, verdictBits_alignFail, checkPacket_alignFail,
    verdictBits_valid, decide_eq_true_iff, decide_eq_true_iff]
  exact ⟨Iff.rfl, Iff.rfl, fun hn => checkPacket_long hn b0 b2 b3⟩

/-- Settles O43: in a session the raise; else VLEN tells whether the header is read, byte by byte. -/
theorem validateWritesTheVerdict : Obligations.ValidateWritesTheVerdict := by
  intro s
  refine ⟨execValidate_encoding, fun hm => ?_⟩
  by_cases hn : s.vlen.toNat < 4
  · exact ⟨_, execValidate_short hm hn, rfl, fun _ => ⟨rfl, rfl⟩,
      fun h4 => absurd hn (Nat.not_lt.mpr h4), verdictBits_of_length _ _ _ _⟩
  · have hn2 := s.afterRead_draws 0
    have hn3 := (s.afterRead 0).afterRead_draws 2
    have hn4 := ((s.afterRead 0).afterRead 2).afterRead_draws 3
    simp only [State.afterRead_buf] at hn3 hn4
    refine ⟨_, execValidate_header hm (Nat.not_lt.mp hn),
      congrArg (State.setVerdict _) s.afterHeaderRead_eq_setDraws, fun h => absurd h hn,
      fun _ => ⟨_, _, hn2, hn3, hn4, ?_⟩, verdictBits_of_length _ _ _ _⟩
    simp only [State.setVerdict_vres, State.byteAt, State.afterRead_buf]

end Sys2Proof.Machine

/-! Host access (spec/42_host_access.md R220 to R240): the registers' reads and writes, the commands without
encoder or validator effect, and the window BUF_DATA. -/

namespace Sys2Proof.Machine

/-! ## Register reads -/

/-- Settles O15: each of the three reads answers a literal. -/
theorem constantRegisterReads : Obligations.ConstantRegisterReads :=
  fun _ => ⟨rfl, rfl, rfl⟩

/-- Settles O16: the read answers 0, the write is skipped. -/
theorem reservedOffsetsReadZeroIgnoreWrites : Obligations.ReservedOffsetsReadZeroIgnoreWrites :=
  fun _ _ _ => ⟨rfl, rfl⟩

/-- STATUS has no bit above V_DONE (R40, R224). -/
theorem statusWord_high {k : Nat} (hk : 7 ≤ k) (s : State) : (statusWord s).getLsbD k = false := by
  rw [statusWord, BitVec.getLsbD_setWidth, BitVec.getLsbD_of_ge _ _ hk, Bool.and_false]

/-- Settles O17: the bits of STATUS by their positions; the invariant keeps a packet out of a session. -/
theorem statusReadsItsBits : Obligations.StatusReadsItsBits := by
  intro s
  obtain ⟨hmode, hready, hfail, hovf, hcmd, hbuf, hdone⟩ := statusWord_bits s
  have hsession : (statusWord s).getLsbD 0 = true ↔ s.mode = .encoding := by
    rw [hmode, decide_eq_true_iff]
  refine ⟨statusWord s, rfl, hdone, hbuf, hcmd, hovf, hfail, hready, hsession,
    fun _ hk => statusWord_high hk s, fun hs hboth => ?_⟩
  obtain ⟨hencoding, hpacket⟩ := hboth
  have hnone := hs.encodingNotReady (hsession.mp hencoding)
  exact Bool.false_ne_true (hnone.symm.trans (hready.symm.trans hpacket))

/-- Settles O18: widening keeps the value of each of the four elements. -/
theorem encoderRegisterReads : Obligations.EncoderRegisterReads :=
  fun _ => ⟨⟨_, rfl, zext32_toNat (by decide) _⟩, ⟨_, rfl, zext32_toNat (by decide) _⟩,
    ⟨_, rfl, zext32_toNat (by decide) _⟩, ⟨_, rfl, zext32_toNat (by decide) _⟩⟩

/-- Settles O19: VLEN and BUF_PTR are words already; widening keeps the value of VRESULT. -/
theorem validatorAndPointerReads : Obligations.ValidatorAndPointerReads :=
  fun _ => ⟨rfl, rfl, _, rfl, zext32_toNat (by decide) _⟩

/-! ## Register writes and plain commands -/

/-- Settles O21: neither write looks at the mode or at the value. -/
theorem vlenAndBufPtrStoreTheirValue : Obligations.VlenAndBufPtrStoreTheirValue :=
  fun v s => ⟨rfl, exec_wrBufPtr s v⟩

/-- Settles O22: a flag is kept exactly if its bit of DATA is 0. -/
theorem statusWriteClearsOnes : Obligations.StatusWriteClearsOnes := by
  intro v s
  refine ⟨s.clearErrors v, rfl, rfl, fun h => ?_, fun h => ?_, fun h => ?_, fun h => ?_⟩
  · rw [State.clearErrors_cmdErr, clearsCmdErr, h, Bool.not_true, Bool.and_false]
  · rw [State.clearErrors_cmdErr, clearsCmdErr, h, Bool.not_false, Bool.and_true]
  · rw [State.clearErrors_bufErr, clearsBufErr, h, Bool.not_true, Bool.and_false]
  · rw [State.clearErrors_bufErr, clearsBufErr, h, Bool.not_false, Bool.and_true]

/-- Settles O23: each of the six writes is skipped. -/
theorem readOnlyRegistersIgnoreWrites : Obligations.ReadOnlyRegistersIgnoreWrites :=
  fun _ _ => ⟨rfl, rfl, rfl, rfl, rfl, rfl⟩

/-- WR_CTRL_ILLEGAL raises CmdErr in both modes (R222). -/
theorem exec_wrCtrlIllegal (v : Word) (s : State) : exec (.wrCtrlIllegal v) s = .next s.setCmdErr := rfl

/-- A CTRL write of an illegal value is WR_CTRL_ILLEGAL (R104, R222). -/
theorem decode_ctrl_of_illegal {v : Word} (h : ctrlIllegal v = true) :
    decode (htWord true 1 v) = .wrCtrlIllegal v :=
  (decode_htWord_write 1 v).trans (decodeCtrl_of_illegal h)

/-- Settles O24: NOP is skipped; 0x10 has reserved bit 4 set, so it is illegal though its code is NOP's. -/
theorem nopChangesNothing : Obligations.NopChangesNothing :=
  ⟨fun _ => rfl, decode_ctrl_of_illegal (by decide)⟩

/-- Settles O25: a reserved bit or a reserved code makes the word decode to WR_CTRL_ILLEGAL. -/
theorem illegalCommandsRaiseCmdErr : Obligations.IllegalCommandsRaiseCmdErr := by
  intro v s
  refine ⟨exec_wrCtrlIllegal v s, fun h => ?_⟩
  have hrow := decode_ctrl_of_illegal (ctrlIllegal_iff.mpr h)
  rw [hrow]
  exact exec_wrCtrlIllegal v s

/-! ## The buffer window -/

/-- Settles O26: in range by whether the byte is written; out of range the raise. -/
theorem bufDataReadReturnsTheByte : Obligations.BufDataReadReturnsTheByte := by
  intro s
  refine ⟨fun hp => ?_, execRdBufData_of_ge⟩
  have hptr := State.advancePtr_bufPtr_toNat hp
  cases hb : s.buf.read s.bufPtr.toNat with
  | some b =>
    refine ⟨_, exec_rdBufData_written hp hb, rfl, hptr, fun c hc => ?_, nofun⟩
    cases hc
    exact ⟨rfl, rfl⟩
  | none => exact ⟨_, exec_rdBufData_unwritten hp hb, rfl, hptr, nofun, fun _ => ⟨rfl, rfl⟩⟩

/-- Settles O27: a session raises CmdErr; in mode IDLE the range decides between the byte and BufErr. -/
theorem bufDataWriteStoresTheByte : Obligations.BufDataWriteStoresTheByte := by
  intro v s
  refine ⟨fun hm hp => ?_, execWrBufData_encoding, execWrBufData_of_ge⟩
  exact ⟨_, exec_wrBufData_idle hm hp, rfl, State.advancePtr_bufPtr_toNat hp,
    Memory.read_write_same _ _ _, fun _ ha => Memory.read_write_other _ _ ha⟩

end Sys2Proof.Machine

/-! The raises (spec/60_exceptions.md R260 to R267): which transactions set CMD_ERR, BUF_ERR, OVF and ENC_FAIL,
exactly when, and that a raise has no other effect but the zero data of a refused read. -/

namespace Sys2Proof.Machine

/-! ## The two raises -/

theorem needsIdle_iff {i : Instr} :
    needsIdle i = true ↔ i = .encBegin ∨ i = .validate ∨ ∃ v, i = .wrBufData v := by
  cases i <;> simp [needsIdle]

theorem needsSession_iff {i : Instr} :
    needsSession i = true ↔ i = .encEnd ∨ i = .encAbort ∨ ∃ v, i = .wrPulse v := by
  cases i <;> simp [needsSession]

/-- The rows of R260 for CmdErr: the wrong mode, or an illegal command in either mode. -/
def RaisesCmdErr (s : State) (i : Instr) : Prop :=
  (s.mode = .encoding ∧ needsIdle i = true) ∨ (s.mode = .idle ∧ needsSession i = true) ∨
    ∃ v, i = .wrCtrlIllegal v

/-- The rows of R260 for BufErr: a window access beyond BUF, a write only in mode IDLE, since in a session
it is refused before its range is checked (R266). -/
def RaisesBufErr (s : State) (i : Instr) : Prop :=
  65552 ≤ s.bufPtr.toNat ∧ (i = .rdBufData ∨ (s.mode = .idle ∧ ∃ v, i = .wrBufData v))

section Raises
variable {i : Instr} {s t : State}

/-- A transaction refused in a session raises CmdErr there (R143, R191, R233). -/
theorem exec_needsIdle_encoding (hm : s.mode = .encoding) (hi : needsIdle i = true) :
    exec i s = .next s.setCmdErr := by
  obtain rfl | rfl | ⟨v, rfl⟩ := needsIdle_iff.mp hi
  · exact execEncBegin_encoding hm
  · exact execValidate_encoding hm
  · exact execWrBufData_encoding hm

/-- A transaction refused outside a session raises CmdErr there (R144 to R146). -/
theorem exec_needsSession_idle (hm : s.mode = .idle) (hi : needsSession i = true) :
    exec i s = .next s.setCmdErr := by
  obtain rfl | rfl | ⟨d, rfl⟩ := needsSession_iff.mp hi
  · exact execEncEnd_idle hm
  · exact execEncAbort_idle hm
  · exact execWrPulse_idle hm

/-- Each row of R260 for CmdErr sets the flag and does nothing else (R265). -/
theorem exec_of_raisesCmdErr (hr : RaisesCmdErr s i) : exec i s = .next s.setCmdErr := by
  obtain ⟨hm, hi⟩ | ⟨hm, hi⟩ | ⟨v, rfl⟩ := hr
  · exact exec_needsIdle_encoding hm hi
  · exact exec_needsSession_idle hm hi
  · exact exec_wrCtrlIllegal v s

/-- No other transaction sets CMD_ERR (R260). -/
theorem raisesCmdErr_of_exec (h : exec i s = .next t) (hs : s.cmdErr = false) (ht : t.cmdErr = true) :
    RaisesCmdErr s i := by
  cases exec_effect h with
  | refusedInSession hm hi => exact .inl ⟨hm, hi⟩
  | refusedIdle hm hi => exact .inr (.inl ⟨hm, hi⟩)
  | illegalCommand => exact .inr (.inr ⟨_, rfl⟩)
  | errorsCleared => rw [State.clearErrors_cmdErr, hs] at ht; cases ht
  | softReset => cases ht
  | _ => cases hs.symm.trans ht

/-- A transaction that sets BUF_ERR is a window access beyond BUF, and does nothing but raise; a read also
answers 0 (R232, R233, R265). -/
theorem bufErr_raised_cases (h : exec i s = .next t) (hs : s.bufErr = false) (ht : t.bufErr = true) :
    65552 ≤ s.bufPtr.toNat ∧
    ((i = .rdBufData ∧ t = s.setBufErr.answer 0) ∨
      (s.mode = .idle ∧ ∃ v, i = .wrBufData v ∧ t = s.setBufErr)) := by
  cases exec_effect h with
  | windowReadBeyond hp => exact ⟨hp, .inl ⟨rfl, rfl⟩⟩
  | windowWriteBeyond hm hp => exact ⟨hp, .inr ⟨hm, _, rfl, rfl⟩⟩
  | errorsCleared => rw [State.clearErrors_bufErr, hs] at ht; cases ht
  | softReset => cases ht
  | _ => cases hs.symm.trans ht

theorem bufErr_of_raisesBufErr (h : exec i s = .next t) (hr : RaisesBufErr s i) : t.bufErr = true := by
  obtain ⟨hp, rfl | ⟨hm, v, rfl⟩⟩ := hr
  · rw [next_inj ((execRdBufData_of_ge hp).symm.trans h)]; rfl
  · rw [next_inj ((execWrBufData_of_ge hm hp).symm.trans h)]; rfl

theorem cmdErr_raised_iff (h : exec i s = .next t) (hs : s.cmdErr = false) :
    t.cmdErr = true ↔ RaisesCmdErr s i := by
  refine ⟨raisesCmdErr_of_exec h hs, fun hr => ?_⟩
  rw [next_inj ((exec_of_raisesCmdErr hr).symm.trans h)]; rfl

theorem bufErr_raised_iff (h : exec i s = .next t) (hs : s.bufErr = false) :
    t.bufErr = true ↔ RaisesBufErr s i := by
  refine ⟨fun ht => ?_, bufErr_of_raisesBufErr h⟩
  obtain ⟨hp, ⟨hi, -⟩ | ⟨hm, v, hi, -⟩⟩ := bufErr_raised_cases h hs ht
  · exact ⟨hp, .inl hi⟩
  · exact ⟨hp, .inr ⟨hm, v, hi⟩⟩

/-! ## The two flags of a session -/

/-- OVF comes up with a PULSE whose element has no room (R144). -/
theorem ovf_raised_iff (h : exec i s = .next t) (hs : s.ovf = false) :
    t.ovf = true ↔ s.mode = .encoding ∧ ∃ d, i = .wrPulse d ∧
      65535 < s.paylen.toNat + (pack (scale s.config d)).length := by
  constructor
  · intro ht
    cases exec_effect h with
    | pulseOverflows hm ho hf => exact ⟨hm, _, rfl, hf⟩
    | softReset | begun => cases ht
    | _ => cases hs.symm.trans ht
  · rintro ⟨hm, d, rfl, hf⟩
    have hraise := (execWrPulse_live hm hs).trans
      (appendElement_overflow (s := s.setLasttick (scale s.config d)) hf)
    rw [next_inj (hraise.symm.trans h)]; rfl

/-- ENC_FAIL comes up with the ENC_END of a session that has overflowed (R145, R262). -/
theorem encFail_raised_iff (h : exec i s = .next t) (hs : s.encFail = false) :
    t.encFail = true ↔ s.mode = .encoding ∧ s.ovf = true ∧ i = .encEnd := by
  constructor
  · intro ht
    cases exec_effect h with
    | sessionFailed hm ho => exact ⟨hm, ho, rfl⟩
    | softReset | begun => cases ht
    | _ => cases hs.symm.trans ht
  · rintro ⟨hm, ho, rfl⟩
    rw [next_inj ((execEncEnd_failed hm ho).symm.trans h)]; rfl

end Raises

/-- Settles O47, flag by flag. -/
theorem raiseTable : Obligations.RaiseTable := by
  intro i s t h
  refine ⟨fun hs => ?_, bufErr_raised_iff h, ovf_raised_iff h, encFail_raised_iff h⟩
  rw [← needsIdle_iff, ← needsSession_iff]
  exact cmdErr_raised_iff h hs

/-- Settles O48: a raise of CmdErr is one named update; a raise of BufErr is a refused read, which answers 0,
or a refused write. -/
theorem raisesArePrecise : Obligations.RaisesArePrecise := by
  intro i s t h
  refine ⟨fun hs ht => ?_, fun hs ht => ?_⟩
  · have hr := raisesCmdErr_of_exec h hs ht
    exact next_inj ((exec_of_raisesCmdErr hr).symm.trans h)
  · obtain ⟨-, ⟨rfl, rfl⟩ | ⟨-, v, rfl, rfl⟩⟩ := bufErr_raised_cases h hs ht
    · exact ⟨rfl, rfl⟩
    · exact ⟨rfl, rfl⟩

end Sys2Proof.Machine

/-! The two reset events (spec/70_reset_and_hazards.md R290, R291; R221): the state each leaves, the host's
side of the port, and what every register reads after a hard reset. -/

namespace Sys2Proof.Machine

/-! ## What the reset events do -/

/-- SOFT_RESET in both modes (R221). -/
theorem exec_softReset (s : State) : exec .softReset s = .next s.softReset := rfl

/-- Whatever a step with a hard reset pending leaves is the reset state of the same machine (R290). -/
theorem eq_hardReset_of_step {s t : State} {rest : List PortEvent} (hp : s.pending = .hardReset :: rest)
    (h : step s = .next t) : t = { s with pending := rest }.hardReset :=
  next_inj ((step_of_hardReset hp).symm.trans h)

/-- After a hard reset every BUF byte is unwritten (R290). -/
theorem State.hardReset_read (s : State) (a : Nat) : s.hardReset.buf.read a = none := rfl

/-- Settles O9: a hard reset is the step's equation, SOFT_RESET its arm; both are plain named updates. -/
theorem resetEventsRestoreTheResetState : Obligations.ResetEventsRestoreTheResetState :=
  fun s => ⟨fun _ hp => ⟨_, step_of_hardReset hp, rfl, State.hardReset_read _⟩, exec_softReset s⟩

/-- Settles O10: only the step itself takes the reset off the pending events. -/
theorem hardResetKeepsTheHostSide : Obligations.HardResetKeepsTheHostSide := by
  intro s t rest hp h
  obtain rfl := eq_hardReset_of_step hp h
  exact ⟨rfl, rfl, rfl⟩

/-! ## What the host reads after a hard reset -/

/-- With no session, no packet and no flag, STATUS is 0 (R224, R291). -/
theorem statusWord_hardReset (s : State) : statusWord s.hardReset = 0 :=
  calc statusWord s.hardReset
    _ = statusWord State.reset := rfl
    _ = 0 := by decide

/-- RD_STATUS answers the STATUS word in every state (R224). -/
theorem exec_rdStatus (s : State) : exec .rdStatus s = .next (s.answer (statusWord s)) := rfl

theorem exec_rdStatus_hardReset (s : State) :
    exec .rdStatus s.hardReset = .next (s.hardReset.answer 0) := by
  rw [exec_rdStatus, statusWord_hardReset]

/-- BUF_PTR is 0 and byte 0 is unwritten, so the window returns the next draw (R72, R232, R291). -/
theorem exec_rdBufData_hardReset (s : State) :
    exec .rdBufData s.hardReset = .next (s.hardReset.drawn.afterByteRead (Config.draw s.draws)) :=
  exec_rdBufData_unwritten (by simp) (s.hardReset_read _)

/-- Settles O11: the elements behind the registers are at their reset values, so each read answers a
literal; SOFT_RESET leaves BUF out. -/
theorem readsAfterHardReset : Obligations.ReadsAfterHardReset := by
  refine ⟨fun s t rest hp h => ?_, fun s t h => ?_⟩
  · obtain rfl := eq_hardReset_of_step hp h
    obtain ⟨hid, hctrl, hpulse⟩ := constantRegisterReads { s with pending := rest }.hardReset
    exact ⟨rfl, exec_rdStatus_hardReset _, rfl, rfl, rfl, rfl, rfl, rfl, rfl, hid, hctrl, hpulse,
      fun k => (reservedOffsetsReadZeroIgnoreWrites k 0 _).1, State.hardReset_read _,
      exec_rdBufData_hardReset _⟩
  · rw [next_inj ((exec_softReset s).symm.trans h), State.softReset_buf]

end Sys2Proof.Machine
